-- ==== Sys2Proof/Word.lean ====
section
/-! DEFINITION. The words of the part and the numbers of its blocks: bytes of the link, 16-bit and 24-bit fields, the 32-bit
timebase, and the index types of classes, channels, timers, entries and lines (spec/00_scope.md, Conventions). -/

namespace Sys2Proof

/-- One byte of the link. -/
abbrev Byte := BitVec 8

/-- A 16-bit field or counter. -/
abbrev Word16 := BitVec 16

/-- A 24-bit field: a width, a period or a duration in microseconds. -/
abbrev Word24 := BitVec 24

/-- A value of the 32-bit microsecond timebase (R69). -/
abbrev Time := BitVec 32

/-- A delivery class, C0 to C3. -/
abbrev Cls := Fin 4

/-- A channel, IN0 to IN15. -/
abbrev ChannelId := Fin 16

/-- An interval timer, TMR0 to TMR3. -/
abbrev TimerId := Fin 4

/-- A reaction entry, RX0 to RX15. -/
abbrev EntryId := Fin 16

/-- An output line, OUT0 to OUT7. -/
abbrev LineId := Fin 8

/-- A link rate code (R170). -/
abbrev RateCode := Fin 8

end Sys2Proof
end

