-- ==== Sys2Proof/Syntax.lean ====
section
/-! DEFINITION. The commands of the part: `Instr`, one constructor per row of spec/opcode_table.json, with the operands of the
request, frame or event the row names. The operands of a request are the raw bytes of its parameters (R182), so that values out
of range can be sent and are refused by the part, not by the syntax. -/

namespace Sys2Proof

/-- One operation of OUT_WRITE as it is sent (R182): line, kind, level, duration (3). -/
structure OutOpBytes where
  line     : Byte
  kind     : Byte
  level    : Byte
  duration : Word24
  deriving DecidableEq, Repr

/-- One action of REACT_LOAD as it is sent (R182): a kind byte and five operand bytes. -/
structure ActionBytes where
  kind : Byte
  o1   : Byte
  o2   : Byte
  o3   : Byte
  o4   : Byte
  o5   : Byte
  deriving DecidableEq, Repr

/-- What ends a frame on RXD in a discard (R176): the byte just taken is a LEN out of range, the byte just taken is the second CRC
byte and the CRC fails, or a character with a framing error arrived. `released` says whether RXD has stood at 1 since the framing error
before it, if there was one: in a break it has not (R169, R176). -/
inductive FrameFault where
  | lenOutOfRange (byte : Byte)
  | crcFailure (byte : Byte)
  | framingError (released : Bool)
  deriving DecidableEq, Repr

/-- The commands. Requests carry the host's tag first (R154). -/
inductive Instr where
  -- requests of the link (files 02, 04, 08)
  | hello (tag : Byte)
  | reset (tag scope : Byte)
  | linkCfg (tag rate timeout retryLimit silenceLimit : Byte)
  | linkRead (tag clear : Byte)
  | quiet (tag wake : Byte)
  | resume (tag : Byte)
  | timeRead (tag : Byte)
  -- requests of the channels (file 03)
  | chanCfg (tag channel mode select interval filterCount report cls : Byte) (threshold : Word16)
  | chanCtlEnable (tag : Byte) (mask : Word16)
  | chanCtlDisable (tag : Byte) (mask : Word16)
  | chanCtlArm (tag : Byte) (mask : Word16)
  | chanCtlDisarm (tag : Byte) (mask : Word16)
  | chanCtlClearSeen (tag : Byte) (mask : Word16)
  | chanRead (tag channel : Byte)
  -- requests of the class queues (file 01)
  | classCfg (tag cls limit batchMin batchHold frameMax reserve : Byte)
  | classRead (tag cls : Byte)
  | flush (tag cls : Byte)
  -- requests of the interval timers (file 05)
  | timerCfg (tag timer mode : Byte) (period : Word24) (report cls : Byte)
  | timerCtlStart (tag mask : Byte)
  | timerCtlStop (tag mask : Byte)
  | timerRead (tag timer : Byte)
  -- requests of the reaction table (file 06)
  | reactLoad (tag entry sourceKind sourceIndex qualifier : Byte) (width : Word24) (fireLimit doneClass reportDone : Byte)
      (actions : List ActionBytes)
  | reactCtlArm (tag : Byte) (mask : Word16)
  | reactCtlDisarm (tag : Byte) (mask : Word16)
  | reactCtlClear (tag : Byte) (mask : Word16)
  | reactRead (tag entry : Byte)
  -- requests of the output lines (file 07); an OUT_WRITE is named by the kind of its first operation (log 17)
  | outWriteSet (tag line level : Byte) (duration : Word24) (rest : List OutOpBytes)
  | outWriteToggle (tag line level : Byte) (duration : Word24) (rest : List OutOpBytes)
  | outWritePulse (tag line level : Byte) (duration : Word24) (rest : List OutOpBytes)
  | outCfg (tag mask policy safeLevel : Byte)
  | outRead (tag : Byte)
  -- a request of no known code (file 09)
  | unknownCodeRequest (tag code : Byte) (params : List Byte)
  -- frames and characters on RXD, and the end of a frame on TXD (files 02, 09, 10)
  | requestFrame (tag code : Byte) (params : List Byte)
  | ack (session cls seq : Byte)
  | ackWrongLength (rest : List Byte)
  | unknownTypeFrame (type : Byte) (rest : List Byte)
  | frameDiscard (why : FrameFault)
  | gapExpiry
  | frameTransmitEnd
  -- the field lines and time (files 01 to 08)
  | edgeRecognized (channel : ChannelId)
  | baseline (channel : ChannelId) (level : Bool)
  | saturationPoint (channel : ChannelId)
  | timerExpiry (timer : TimerId)
  | pulseEnd (line : LineId)
  | retransmitTimerExpiry (cls : Cls)
  | silenceExpiry
  | batchHoldReached (cls : Cls)
  | agedMark (cls : Cls) (number : Word16)
  -- hard reset (file 08)
  | powerOnReset
  | resetnLow
  | resetRelease
  -- the steps below an edge and below a frame (files 03, 10)
  | sampleInstant (channel : ChannelId) (level : Bool)
  | characterReceived (byte : Byte)
  deriving DecidableEq, Repr

end Sys2Proof
end

