-- ==== Sys2Proof/Decode.lean ====
section
/-! DEFINITION. The commands that a word spells by the table's bits. spec/opcode_table.json gives no row any bits (its "fields" are
empty and no row has "fixed"): a command of this block is a frame, a character, a pin event or a point of time, not a word. -/

namespace Sys2Proof

/-- The command a word of `nbits` bits spells by the table: none, for no row has bits (log 20). -/
def decodeTableWord (_nbits _w : Nat) : Option Instr := none

end Sys2Proof
end

