-- ==== Sys2Proof/Config.lean ====
section
/-! DEFINITION. The capacities fixed in the part (spec/00_scope.md, "Capacities at a glance"). The model has no free value: what the spec
leaves open is an order or a reset value, each in the assumption log. -/

namespace Sys2Proof.Config

/-- R1: the record pool has 128 slots. -/
def poolSlots : Nat := 128

/-- R154: capacity of the request queue. -/
def requestQueueSize : Nat := 4

/-- R154: capacity of the reply queue. -/
def replyQueueSize : Nat := 4

/-- R154: capacity of the reply cache. -/
def replyCacheSize : Nat := 8

end Sys2Proof.Config
end

