-- ==== Sys2Proof/Machine/State.lean ====
section
/-! DEFINITION. The state of the part as plain data: every piece of state the chapters give the blocks, the queue of commands that
wait, and the state right after a hard reset. Each structure cites the rule whose table it follows. -/

namespace Sys2Proof.Machine

open Sys2Proof

/-! ### Records (chapter 1) -/

/-- Direction of an edge (R56). -/
inductive Direction where
  | rise
  | fall
  deriving DecidableEq, Repr

/-- Polarity of a measured pulse (R74): HIGH has active level 1, LOW active level 0. -/
inductive Polarity where
  | high
  | low
  deriving DecidableEq, Repr

/-- Kind of a record with its extra fields (R6). -/
inductive RecordKind where
  | edge (direction : Direction)
  | width (polarity : Polarity) (width : Word24) (isOver : Bool)
  | count (count : Word16)
  | expiry (expiryCount : Word16)
  | done
  | post (tag : Byte)
  deriving DecidableEq, Repr

/-- What an offer carries to the class queues (R9), and what a capture event or an expiry carries to the Reaction Engine (R82, R92):
the same content, without event number and lost_before. -/
structure Content where
  kind      : RecordKind
  source    : Fin 16
  timestamp : Time
  deriving DecidableEq, Repr

/-- A stored record: the fields of R5 to R7, and the admission time and aged mark of R15. -/
structure Record where
  content    : Content
  number     : Word16
  lostBefore : Option Word16
  admittedAt : Time
  aged       : Bool
  deriving DecidableEq, Repr

/-! ### Classes and delivery (chapters 1 and 2) -/

/-- State of a frame in flight (R28); absent is the absence of the frame. -/
inductive FrameState where
  | sending
  | waiting (due : Time)
  | held
  | resend
  deriving DecidableEq, Repr

/-- A report frame in flight (R27). -/
structure InFlight where
  seq     : Byte
  records : List Record
  state   : FrameState
  deriving DecidableEq, Repr

/-- One delivery class: the state of R2 and R27 and the settings of R19. -/
structure ClassState where
  unsent      : List Record
  frame       : Option InFlight
  nextNumber  : Word16
  lostPending : Word16
  limit       : Byte
  batchMin    : Byte
  batchHold   : Byte
  frameMax    : Byte
  nextSeq     : Byte
  retryCount  : Nat
  deriving DecidableEq, Repr

/-! ### Channels (chapters 3 and 4) -/

/-- Sampler state (R52); the filtered level exists in STABLE only. -/
inductive Sampler where
  | off
  | settling
  | stable (filtered : Bool)
  deriving DecidableEq, Repr

/-- A run of equal samples being counted (R52, R54). -/
structure Run where
  level  : Bool
  length : Nat
  start  : Time
  deriving DecidableEq, Repr

/-- The edges an EDGE or COUNT channel acts on (R62). -/
inductive EdgeSelect where
  | rise
  | fall
  | both
  deriving DecidableEq, Repr

/-- Capture mode together with its select (R62). -/
inductive CaptureMode where
  | edge (select : EdgeSelect)
  | width (select : Polarity)
  | count (select : EdgeSelect)
  deriving DecidableEq, Repr

/-- A WIDTH measurement in progress (R74, R75). -/
structure Measurement where
  lead            : Time
  saturated       : Bool
  saturationPoint : Time
  deriving DecidableEq, Repr

/-- One channel: Input Sampler and Capture Unit (R52). `instantTaken` is the model's own: the timebase value of the last sample
instant that was taken, or skipped by ENABLE or CHAN_CFG (R53; log 13). -/
structure Channel where
  sampler      : Sampler
  run          : Option Run
  lastSample   : Option Bool
  riseSeen     : Bool
  fallSeen     : Bool
  interval     : Fin 4
  filterCount  : Byte
  mode         : CaptureMode
  report       : Bool
  cls          : Cls
  threshold    : Word16
  armed        : Bool
  count        : Word16
  measurement  : Option Measurement
  instantTaken : Option Time
  deriving DecidableEq, Repr

/-! ### Interval timers (chapter 5) -/

/-- Timer mode (R88). -/
inductive TimerMode where
  | oneshot
  | periodic
  deriving DecidableEq, Repr

/-- One interval timer (R88). It is RUNNING exactly while it holds a due time. -/
structure Timer where
  due         : Option Time
  mode        : TimerMode
  period      : Word24
  report      : Bool
  cls         : Cls
  expiryCount : Word16
  deriving DecidableEq, Repr

/-! ### Reaction table (chapter 6) -/

/-- The source a trigger names (R102). -/
inductive TriggerSource where
  | channel (index : ChannelId)
  | timer (index : TimerId)
  deriving DecidableEq, Repr

/-- The qualifier of a trigger (R102). -/
inductive Qualifier where
  | any
  | rise
  | fall
  | atLeast
  | below
  deriving DecidableEq, Repr

/-- An operation on an output line, from OUT_WRITE or from an action (R122, R123). -/
inductive OutOp where
  | set (line : LineId) (level : Bool)
  | toggle (line : LineId)
  | pulse (line : LineId) (level : Bool) (duration : Word24)
  deriving DecidableEq, Repr

/-- An action of an entry's list (R104); the three output actions are one constructor over the output operation. -/
inductive Action where
  | out (op : OutOp)
  | timerStart (timer : TimerId)
  | timerStop (timer : TimerId)
  | chanArm (channel : ChannelId)
  | chanDisarm (channel : ChannelId)
  | reactArm (entry : EntryId)
  | reactDisarm (entry : EntryId)
  | post (cls : Cls) (tag : Byte)
  deriving DecidableEq, Repr

/-- An action as it was loaded: what it does, and its operand bytes after the last one it uses. R182 has those mean nothing, R183 returns
the action as loaded (log 8). -/
structure LoadedAction where
  action : Action
  unused : List Byte
  deriving DecidableEq, Repr

/-- The contents REACT_LOAD writes whole (R100, R117). -/
structure EntryContents where
  source     : TriggerSource
  qualifier  : Qualifier
  width      : Word24
  fireLimit  : Byte
  doneClass  : Cls
  reportDone : Bool
  actions    : List LoadedAction
  deriving DecidableEq, Repr

/-- State of an entry (R100, R101); an EMPTY entry holds no contents. -/
inductive EntryState where
  | empty
  | disarmed (contents : EntryContents)
  | armed (contents : EntryContents)
  deriving DecidableEq, Repr

/-- One reaction entry (R100). -/
structure Entry where
  state     : EntryState
  remaining : Byte
  fires     : Word16
  deriving DecidableEq, Repr

/-! ### Output lines (chapter 7) -/

/-- A pulse in progress (R121). -/
structure Pulse where
  endTime : Time
  restore : Bool
  deriving DecidableEq, Repr

/-- Safe policy of a line (R121). -/
inductive Policy where
  | hold
  | drive
  deriving DecidableEq, Repr

/-- One output line (R121). -/
structure Output where
  level     : Bool
  pulse     : Option Pulse
  policy    : Policy
  safeLevel : Bool
  locked    : Bool
  deriving DecidableEq, Repr

/-! ### Link, notices and requests (chapters 8 and 9) -/

/-- Link state (R134); the wake class exists in QUIET only and is NONE there when absent. -/
inductive LinkState where
  | down
  | up
  | quiet (wake : Option Cls)
  | stalled
  deriving DecidableEq, Repr

/-- Scope of a RESET request (R148). -/
inductive Scope where
  | link
  | capture
  | all
  deriving DecidableEq, Repr

/-- Cause of a hard reset (R152). -/
inductive HardCause where
  | power
  | pin
  deriving DecidableEq, Repr

/-- A notice (R147). -/
inductive Notice where
  | bootPower
  | bootPin
  | bootRequest
  | stallRetry (cls : Cls)
  | stallSilence
  deriving DecidableEq, Repr

/-- Status of a reply (spec/00_scope.md, Requests and refusals; R180). -/
inductive Status where
  | ok
  | unknown
  | length
  | range
  | noSession
  | state
  | active
  | disabled
  | occupied
  | locked
  deriving DecidableEq, Repr

/-- A request as received (R154). -/
structure Request where
  tag    : Byte
  code   : Byte
  params : List Byte
  deriving DecidableEq, Repr

/-- A reply in the reply queue (R154): `formed` says that an execution formed it, as against a replay from the cache; `rate` is the
rate code held with the formed reply of an accepted LINK_CFG. -/
structure Reply where
  tag    : Byte
  code   : Byte
  status : Status
  data   : List Byte
  formed : Bool
  rate   : Option RateCode
  deriving DecidableEq, Repr

/-- An entry of the reply cache (R154): the request that produced the reply, and the reply. -/
structure CacheEntry where
  request : Request
  reply   : Reply
  deriving DecidableEq, Repr

/-! ### Serial port (chapters 2 and 10) -/

/-- Receiver state (R169, R174). -/
inductive RxState where
  | hunt
  | length
  | body
  | check
  deriving DecidableEq, Repr

/-- The last change of the link rate (R172; log 22): its time, and whether the frame that was being collected then has been counted. -/
structure RateChange where
  time         : Time
  frameCounted : Bool
  deriving DecidableEq, Repr

/-- A frame on TXD (R32, R180). -/
inductive TxFrame where
  | reply (r : Reply)
  | notice (n : Notice)
  | report (session : Byte) (cls : Cls) (seq : Byte) (records : List Record)
  deriving DecidableEq, Repr

/-- The BUSY transmitter: the frame on the wire, and the timebase value at which its last character leaves TXD at the nominal rate
(R34; log 6). -/
structure Sending where
  frame : TxFrame
  ends  : Time
  deriving DecidableEq, Repr

/-! ### The whole state -/

/-- The state of the FKE416. -/
structure State where
  -- timebase and hard reset (R69, R152)
  timebase          : Time
  hardReset         : Option HardCause
  -- class queues and report delivery (R1 to R4, R27)
  classes           : Vector ClassState 4
  reserve           : Byte
  retransmitTimeout : Byte
  retryLimit        : Byte
  -- transmitter (R32)
  tx                : Option Sending
  -- channels, timers, reactions, outputs (R52, R88, R100, R121)
  channels          : Vector Channel 16
  inputs            : Vector Bool 16
  timers            : Vector Timer 4
  entries           : Vector Entry 16
  outputs           : Vector Output 8
  -- link controller (R134)
  link              : LinkState
  session           : Byte
  silenceDue        : Option Time
  silenceLimit      : Byte
  notices           : List Notice
  attn              : Bool
  pendingReset      : Option Scope
  -- request handler (R154)
  requestQueue      : List Request
  replyQueue        : List Reply
  replyCache        : List CacheEntry
  -- serial port (R169)
  rate              : RateCode
  rx                : RxState
  candidate         : List Byte
  gapDue            : Option Time
  discards          : Word16
  -- RXD has not returned to 1 since a framing error (R169, R176)
  rxHeld            : Bool
  -- the model's own: the last change of the rate (R172; log 22), and the queue of commands that wait
  rateChange        : Option RateChange
  pending           : List Instr
  deriving DecidableEq, Repr

/-! ### Reset values -/

/-- Class defaults (R24, R50); only batch_hold differs from class to class. -/
def ClassState.default (batchHold : Byte) : ClassState :=
  { unsent := [], frame := none, nextNumber := 0, lostPending := 0, limit := 32, batchMin := 1, batchHold := batchHold,
    frameMax := 8, nextSeq := 0, retryCount := 0 }

/-- The four classes after reset: batch_hold C0 0, C1 5, C2 20, C3 100 ms (R24). -/
def defaultClasses : Vector ClassState 4 :=
  #v[ClassState.default 0, ClassState.default 5, ClassState.default 20, ClassState.default 100]

/-- Channel defaults (R67). -/
def Channel.default : Channel :=
  { sampler := .off, run := none, lastSample := none, riseSeen := false, fallSeen := false, interval := 0, filterCount := 4,
    mode := .edge .both, report := true, cls := 3, threshold := 1, armed := false, count := 0, measurement := none,
    instantTaken := none }

/-- Timer defaults (R98). -/
def Timer.default : Timer :=
  { due := none, mode := .oneshot, period := 1000, report := false, cls := 3, expiryCount := 0 }

/-- Entry defaults (R120). -/
def Entry.default : Entry :=
  { state := .empty, remaining := 0, fires := 0 }

/-- Line defaults (R132). -/
def Output.default : Output :=
  { level := false, pulse := none, policy := .hold, safeLevel := false, locked := false }

/-- Every block at its defaults, the link DOWN, the transmitter IDLE and no notice queued (R24, R50, R67, R98, R120, R132, R152, R166,
R184). ATTN is asserted, as it is in DOWN (R145). -/
def State.defaults : State :=
  { timebase := 0, hardReset := none, classes := defaultClasses, reserve := 4, retransmitTimeout := 20, retryLimit := 3,
    tx := none, channels := Vector.replicate 16 Channel.default, inputs := Vector.replicate 16 false,
    timers := Vector.replicate 4 Timer.default, entries := Vector.replicate 16 Entry.default,
    outputs := Vector.replicate 8 Output.default, link := .down, session := 0, silenceDue := none, silenceLimit := 0,
    notices := [], attn := true, pendingReset := none, requestQueue := [], replyQueue := [], replyCache := [], rate := 4,
    rx := .hunt, candidate := [], gapDue := none, discards := 0, rxHeld := false,
    rateChange := none, pending := [] }

/-- The state at the release of the power-on reset (R152): the defaults, with one BOOT notice, cause POWER, in the notice queue. -/
def State.reset : State := { State.defaults with notices := [.bootPower] }

/-- Why the machine would stop with a fault: no reason exists. No rule of spec/ stops the part; what is refused is answered with a
status, what is damaged is discarded and counted (R160, R176). -/
inductive Fault
  deriving DecidableEq, Repr

/-- Why a command would have no meaning. -/
inductive Refusal where
  /-- Raised by an arm of `exec` whose command has no meaning yet: safe, since no next state is given. No arm raises it. -/
  | notModelled (mnemonic : String)
  deriving DecidableEq, Repr

/-- What a command or a step answers. -/
abbrev Result := Host.Outcome State Fault Refusal

end Sys2Proof.Machine
end

