-- ==== Sys2Proof/Machine/Layouts.lean ====
section
/-! DEFINITION. Bytes on the link: multi-byte fields, the CRC, the frames the part sends, record encodings and the nominal times a
frame takes (chapter 10; R34, R170, R171, R173, R180, R181). -/

namespace Sys2Proof.Machine

open Sys2Proof

/-! ### Fields (R180: high byte first) -/

/-- A number as one byte. -/
def byteOf (n : Nat) : Byte := BitVec.ofNat 8 n

/-- A flag as one byte, 0 or 1. -/
def flagByte (b : Bool) : Byte := if b then 1 else 0

/-- R180: a value that may be absent, with no value given for that case, is sent as 0xFF. -/
def flagOrAbsent : Option Bool → Byte
  | some b => flagByte b
  | none => 0xFF

/-- A 16-bit field, high byte first. -/
def bytes16 (w : Word16) : List Byte := [w.extractLsb' 8 8, w.extractLsb' 0 8]

/-- A 24-bit field, high byte first. -/
def bytes24 (w : Word24) : List Byte := [w.extractLsb' 16 8, w.extractLsb' 8 8, w.extractLsb' 0 8]

/-- A 32-bit field, high byte first. -/
def bytes32 (w : Time) : List Byte := [w.extractLsb' 24 8, w.extractLsb' 16 8, w.extractLsb' 8 8, w.extractLsb' 0 8]

/-- A 16-bit field read from its bytes. -/
def join16 (hi lo : Byte) : Word16 := hi ++ lo

/-- A 24-bit field read from its bytes. -/
def join24 (hi mid lo : Byte) : Word24 := hi ++ mid ++ lo

/-- An index below `n` read from a byte, when it is in range. -/
def indexOf (n : Nat) (b : Byte) : Option (Fin n) := if h : b.toNat < n then some ⟨b.toNat, h⟩ else none

/-- A byte that must be 0 or 1 (R182: off and on). -/
def flagOf (b : Byte) : Option Bool := if b = 0 then some false else if b = 1 then some true else none

/-! ### CRC (R173) -/

/-- One shift of the CRC: left one place, with 0x1021 combined in when the bit shifted out was 1. -/
def crcShift (v : Word16) : Word16 := if v.msb then (v <<< 1) ^^^ 0x1021#16 else v <<< 1

/-- One byte into the CRC: combined into the high eight bits, then eight shifts. -/
def crcByte (v : Word16) (b : Byte) : Word16 :=
  crcShift (crcShift (crcShift (crcShift (crcShift (crcShift (crcShift (crcShift (v ^^^ (b ++ 0#8)))))))))

/-- The CRC over LEN and the body, from 0xFFFF. -/
def crc (bytes : List Byte) : Word16 := bytes.foldl crcByte 0xFFFF#16

/-- The SYNC byte (R180). -/
def syncByte : Byte := 0xB4

/-- What follows SYNC in a frame: LEN, the body and the CRC, high byte first (R171, R180). -/
def frameTail (body : List Byte) : List Byte :=
  let covered := byteOf body.length :: body
  covered ++ bytes16 (crc covered)

/-! ### Frames the part sends (R180, R181, R183) -/

/-- Status byte of a REPLY (R180). -/
def statusByte : Status → Byte
  | .ok => 0
  | .unknown => 1
  | .length => 2
  | .range => 3
  | .noSession => 4
  | .state => 5
  | .active => 6
  | .disabled => 7
  | .occupied => 8
  | .locked => 9

/-- Kind, cause and data bytes of a NOTICE (R180). -/
def noticeBytes : Notice → List Byte
  | .bootPower => [1, 0, 0]
  | .bootPin => [1, 1, 0]
  | .bootRequest => [1, 2, 0]
  | .stallRetry c => [2, 0, byteOf c.val]
  | .stallSilence => [2, 1, 0]

/-- Kind code, E flag, O flag and extra bytes of a record's kind (R181). -/
def kindFields : RecordKind → Nat × Bool × Bool × List Byte
  | .edge d => (1, d == .rise, false, [])
  | .width p w o => (2, p == .high, o, bytes24 w)
  | .count n => (3, false, false, bytes16 n)
  | .expiry n => (4, false, false, bytes16 n)
  | .done => (5, false, false, [])
  | .post tag => (6, false, false, [tag])

/-- A record as it stands in a REPORT (R181). -/
def recordBytes (r : Record) : List Byte :=
  let (code, e, o, extra) := kindFields r.content.kind
  let flags := (if r.lostBefore.isSome then 1 else 0) + (if e then 2 else 0) + (if o then 4 else 0)
  [byteOf (16 * code + flags), byteOf r.content.source.val] ++ bytes16 r.number ++ bytes32 r.content.timestamp ++ extra ++
    (match r.lostBefore with | some n => bytes16 n | none => [])

/-- Body of a frame on TXD (R180): a REPLY carries no data when its status is not OK. -/
def txBody : TxFrame → List Byte
  | .reply r => [0x61, r.tag, r.code, statusByte r.status] ++ (if r.status = .ok then r.data else [])
  | .notice n => 0x63 :: noticeBytes n
  | .report session c seq records =>
      [0x62, session, byteOf c.val, seq, byteOf records.length] ++ (records.map recordBytes).flatten

/-- All the bytes TXD carries for a frame (R171). -/
def txWire (f : TxFrame) : List Byte := syncByte :: frameTail (txBody f)

/-- Length of a frame in characters: LEN + 4 (R34). -/
def txChars (f : TxFrame) : Nat := (txBody f).length + 4

/-! ### Nominal times (R34, R170; log 6, log 7) -/

/-- R170: the nominal link rate of a rate code in bits per second. -/
def bitRate (rate : RateCode) : Nat :=
  match rate.val with
  | 0 => 9600
  | 1 => 19200
  | 2 => 38400
  | 3 => 57600
  | 4 => 115200
  | 5 => 230400
  | 6 => 460800
  | _ => 921600

/-- R169, R170: the character time of a rate code in hundredths of a microsecond, within 0.2 % of ten bit times at the nominal rate. It is the
figure of the table of R170 but at code 7, whose 10.9 us is rounded by more than 0.2 % of ten bit times, 10.85 us (log 6). -/
def charHundredths (rate : RateCode) : Nat :=
  match rate.val with
  | 0 => 104170
  | 1 => 52080
  | 2 => 26040
  | 3 => 17360
  | 4 => 8680
  | 5 => 4340
  | 6 => 2170
  | _ => 1085

/-- R177: the gap limit, ten character times, to the nearest microsecond. -/
def gapLimit (rate : RateCode) : Time := BitVec.ofNat 32 ((charHundredths rate + 5) / 10)

/-- R34: a frame holds the transmitter for its characters times the character time, to the nearest microsecond. -/
def frameTime (rate : RateCode) (f : TxFrame) : Time := BitVec.ofNat 32 ((txChars f * charHundredths rate + 50) / 100)

/-- R53: the sample interval of an interval code in microseconds, 1, 4, 16 or 64. -/
def intervalMicros (code : Fin 4) : Nat := 4 ^ code.val

end Sys2Proof.Machine
end

