-- ==== Sys2Proof/Machine/Ops.lean ====
section
/-! DEFINITION. The operations the chapters share: access to the blocks, admission and refusal of offers, frames in flight, the Transmit
Arbiter, ATTN, the silence timer, and the answer of an owner. The frame every command's effect is put in (`event`) is in Handler.lean, as
the Request Handler goes on inside it. -/

namespace Sys2Proof.Machine

open Sys2Proof

/-! ### Access to the blocks -/

def classAt (s : State) (c : Cls) : ClassState := s.classes[c]
def channelAt (s : State) (i : ChannelId) : Channel := s.channels[i]
def timerAt (s : State) (t : TimerId) : Timer := s.timers[t]
def entryAt (s : State) (i : EntryId) : Entry := s.entries[i]
def outputAt (s : State) (l : LineId) : Output := s.outputs[l]

def setClass (c : Cls) (x : ClassState) (s : State) : State := { s with classes := s.classes.set c x }
def setChannel (i : ChannelId) (x : Channel) (s : State) : State := { s with channels := s.channels.set i x }
def setTimer (t : TimerId) (x : Timer) (s : State) : State := { s with timers := s.timers.set t x }
def setEntry (i : EntryId) (x : Entry) (s : State) : State := { s with entries := s.entries.set i x }
def setOutput (l : LineId) (x : Output) (s : State) : State := { s with outputs := s.outputs.set l x }

/-- Sixteen-bit counters that saturate (R12, R179). -/
def satSucc (n : Word16) : Word16 := if n = 0xFFFF#16 then n else n + 1

/-! ### Records and classes (chapter 1) -/

/-- The records of the in-flight frame, none when it is absent. -/
def inFlight (c : ClassState) : List Record :=
  match c.frame with
  | some f => f.records
  | none => []

/-- R2: occupancy is the unsent count plus the in-flight count. -/
def occupancy (c : ClassState) : Nat := c.unsent.length + (inFlight c).length

/-- The stored records of all four classes. -/
def storedCount (s : State) : Nat :=
  occupancy (classAt s 0) + occupancy (classAt s 1) + occupancy (classAt s 2) + occupancy (classAt s 3)

/-- R1: the free count is 128 minus the occupied slots. -/
def freeCount (s : State) : Nat := Config.poolSlots - storedCount s

/-- R10: the admission test of an offer to class `c`. -/
def admits (c : Cls) (s : State) : Bool :=
  occupancy (classAt s c) < (classAt s c).limit.toNat &&
    (if c = 0 then 0 < freeCount s else s.reserve.toNat < freeCount s)

/-- The record an offer becomes on admission (R11, R7, R15). -/
def recordOf (x : ClassState) (now : Time) (o : Content) : Record :=
  { content := o, number := x.nextNumber, lostBefore := if x.lostPending = 0 then none else some x.lostPending,
    admittedAt := now, aged := false }

/-- R11: admission of an offer to class `c`. -/
def admitRecord (c : Cls) (o : Content) (s : State) : State :=
  let x := classAt s c
  setClass c { x with unsent := x.unsent ++ [recordOf x s.timebase o], nextNumber := x.nextNumber + 1, lostPending := 0 } s

/-- R12: refusal of an offer to class `c`. -/
def refuseOffer (c : Cls) (s : State) : State :=
  setClass c { classAt s c with lostPending := satSucc (classAt s c).lostPending } s

/-- R17: the in-flight frame goes back to the head of the unsent list, and the retry count is cleared with it. -/
def returnFrame (c : ClassState) : ClassState :=
  { c with unsent := inFlight c ++ c.unsent, frame := none, retryCount := 0 }

/-- R23, R25: every record of the class is freed and its frame abandoned. -/
def emptyClass (c : ClassState) : ClassState :=
  { c with unsent := [], frame := none, retryCount := 0, lostPending := 0 }

/-- R38: an accepted ACK frees the frame's records; nothing else of the class changes but the retry count. -/
def freeFrame (c : ClassState) : ClassState := { c with frame := none, retryCount := 0 }

/-! ### Delivery (chapter 2) -/

/-- R29, condition 4: a record has waited at least batch_hold ms, or its aged mark is set. -/
def hasWaited (c : ClassState) (now : Time) (r : Record) : Bool :=
  r.aged || c.batchHold.toNat * 1000 ≤ (now - r.admittedAt).toNat

/-- R29: class `c` is ready. -/
def ready (c : Cls) (s : State) : Bool :=
  let x := classAt s c
  s.link == .up && x.frame.isNone &&
    (match x.unsent with
     | [] => false
     | oldest :: _ => x.batchMin.toNat ≤ x.unsent.length || hasWaited x s.timebase oldest)

/-- The class's frame waits to be sent again (R28). -/
def inResend (c : ClassState) : Bool :=
  match c.frame with
  | some f => f.state == .resend
  | none => false

/-- R31: class `c` has a frame to offer to the Transmit Arbiter. -/
def offersFrame (c : Cls) (s : State) : Bool := ready c s || (s.link == .up && inResend (classAt s c))

/-- R41: the due time of a retransmit timer started now. -/
def retransmitDue (s : State) : Time := s.timebase + BitVec.ofNat 32 (s.retransmitTimeout.toNat * 1000)

/-- R16, R35: the class after a new frame is built from its oldest unsent records. -/
def buildFrame (c : ClassState) : ClassState :=
  let k := min c.unsent.length c.frameMax.toNat
  { c with unsent := c.unsent.drop k, frame := some { seq := c.nextSeq, records := c.unsent.take k, state := .sending },
           nextSeq := c.nextSeq + 1, retryCount := 0 }

/-- R32, R171: the transmitter takes a frame and is BUSY until its last character has left TXD. -/
def startSending (f : TxFrame) (s : State) : State :=
  { s with tx := some { frame := f, ends := s.timebase + frameTime s.rate f } }

/-- R35, R42: the arbiter has selected class `c`; a waiting retransmission goes out as it was built, else a frame is built. -/
def sendReport (c : Cls) (s : State) : State :=
  let x := if inResend (classAt s c) then classAt s c else buildFrame (classAt s c)
  match x.frame with
  | some f =>
      startSending (.report s.session c f.seq f.records) (setClass c { x with frame := some { f with state := .sending } } s)
  | none => s

/-- R33, step 3: the first class with a frame to offer. DESIGN CHOICE, unsafe (log 23): the offer of a frame is computed, so of two classes
that become ready at one microsecond with the transmitter IDLE the lower-numbered is selected, whichever event is taken first; R33 allows
the other one as well. -/
def offeringClass (s : State) : Option Cls := [0, 1, 2, 3].find? (fun c => offersFrame c s)

/-- R33: selection by the Transmit Arbiter; nothing happens while the transmitter is BUSY or a hard reset is in progress. -/
def arbitrate (s : State) : State :=
  if s.tx.isSome || s.hardReset.isSome then s else
  match s.replyQueue with
  | r :: rest => startSending (.reply r) { s with replyQueue := rest }
  | [] =>
    match s.notices with
    | n :: rest => startSending (.notice n) { s with notices := rest }
    | [] =>
      match offeringClass s with
      | some c => sendReport c s
      | none => s

/-- R9, R10, R33: an offer is decided at once; an admitted record that finds the transmitter IDLE is selected at once (log 5). -/
def offer (c : Cls) (o : Content) (s : State) : State :=
  if admits c s then arbitrate (admitRecord c o s) else refuseOffer c s

/-- R38: the class and the frame an ACK names are in flight in this session. -/
def acceptsAck (session : Byte) (c : Cls) (seq : Byte) (s : State) : Bool :=
  (match s.link with
   | .up => true
   | .quiet _ => true
   | _ => false) &&
  session == s.session &&
  (match (classAt s c).frame with
   | some f => f.seq == seq
   | none => false)

/-- R38, R39: an ACK frees the frame it names or is ignored. -/
def takeAck (session cls seq : Byte) (s : State) : State :=
  match indexOf 4 cls with
  | some c => if acceptsAck session c seq s then setClass c (freeFrame (classAt s c)) s else s
  | none => s

/-- R45, QUIET: a WAITING frame is HELD. -/
def holdFrame (c : ClassState) : ClassState :=
  match c.frame with
  | some f =>
    match f.state with
    | .waiting _ => { c with frame := some { f with state := .held } }
    | _ => c
  | none => c

/-- R45, RESUME: a HELD frame is WAITING with its timer started at the full timeout. -/
def unholdFrame (due : Time) (c : ClassState) : ClassState :=
  match c.frame with
  | some f =>
    match f.state with
    | .held => { c with frame := some { f with state := .waiting due } }
    | _ => c
  | none => c

/-- R37: the last character of a report of class `c` has left TXD. -/
def reportSent (c : Cls) (s : State) : State :=
  match (classAt s c).frame with
  | some f =>
    match f.state, s.link with
    | .sending, .up => setClass c { classAt s c with frame := some { f with state := .waiting (retransmitDue s) } } s
    | .sending, .quiet _ => setClass c { classAt s c with frame := some { f with state := .held } } s
    | _, _ => s
  | none => s

/-! ### Link (chapter 8) -/

/-- R145: the level ATTN stands at, from the terms it follows. -/
def attnLevel (s : State) : Bool :=
  if s.hardReset.isSome then false else
  match s.link with
  | .down => true
  | .stalled => true
  | .up => false
  | .quiet none => false
  | .quiet (some wake) => [0, 1, 2, 3].any (fun c : Cls => c ≤ wake && !(classAt s c).unsent.isEmpty)

/-- R145: ATTN is driven to its level. -/
def driveAttn (s : State) : State := { s with attn := attnLevel s }

/-- R143: the silence timer as a start or restart leaves it, stopped when the limit is 0. -/
def silenceStart (s : State) : Option Time :=
  if s.silenceLimit = 0 then none else some (s.timebase + BitVec.ofNat 32 (s.silenceLimit.toNat * 100000))

/-- R143: a sound frame restarts a running silence timer; a stopped one stays stopped. -/
def restartSilence (s : State) : State :=
  if s.silenceDue.isSome then { s with silenceDue := silenceStart s } else s

/-- R128: every lock is cleared and every level left as it stands. -/
def clearLocks (s : State) : State := { s with outputs := s.outputs.map (fun o => { o with locked := false }) }

/-- Two notices of one kind, BOOT or STALL (R146). -/
def sameKind : Notice → Notice → Bool
  | .stallRetry _, .stallRetry _ => true
  | .stallRetry _, .stallSilence => true
  | .stallSilence, .stallRetry _ => true
  | .stallSilence, .stallSilence => true
  | .stallRetry _, _ => false
  | .stallSilence, _ => false
  | _, .stallRetry _ => false
  | _, .stallSilence => false
  | _, _ => true

/-- R146: a notice replaces one of its kind in its place, or joins the tail. -/
def placeNotice (n : Notice) (queue : List Notice) : List Notice :=
  if queue.any (sameKind n) then queue.map (fun m => if sameKind n m then n else m) else queue ++ [n]

/-- R179: the discard counter, saturating. -/
def countDiscard (s : State) : State := { s with discards := satSucc s.discards }

/-! ### Selection, and what an execution answers -/

/-- R33, R145: the arbiter selects if the transmitter is IDLE, and ATTN takes its level. -/
def selectNext (s : State) : State := driveAttn (arbitrate s)

/-- R33: a reply or a notice that already waits with the transmitter IDLE is selected before anything else; at State.reset this is the
BOOT notice (R152; log 9). -/
def selectWaiting (s : State) : State :=
  if s.replyQueue.isEmpty && s.notices.isEmpty then s else arbitrate s

/-- What the execution of a request leaves: the state, the status and data of its reply, and the rate code held with the reply of an
accepted LINK_CFG (R154, R161). -/
structure Answer where
  state  : State
  status : Status
  data   : List Byte
  rate   : Option RateCode
  deriving DecidableEq, Repr

/-- R160: a refused request changes nothing and its reply carries no data. -/
def refuse (status : Status) (s : State) : Answer := { state := s, status := status, data := [], rate := none }

/-- R160: an accepted request's reply carries OK and the data its rule lists. -/
def accept (s : State) (data : List Byte) : Answer := { state := s, status := .ok, data := data, rate := none }

end Sys2Proof.Machine
end

