-- ==== Sys2Proof/Machine/Channels.lean ====
section
/-! DEFINITION. Input channels (chapter 3): arming, disarming, enabling and disabling, the filter's run, and the owner's part of
CHAN_CFG, CHAN_CTL and CHAN_READ. What an edge does at the Capture Unit stands in Machine/Capture.lean. -/

namespace Sys2Proof.Machine

open Sys2Proof

/-- R60: a channel in SETTLING or STABLE is armed: count 0, any measurement abandoned. -/
def armedChannel (c : Channel) : Channel := { c with armed := true, count := 0, measurement := none }

/-- R61: a channel is disarmed: any measurement abandoned, the count kept. -/
def disarmedChannel (c : Channel) : Channel := { c with armed := false, measurement := none }

/-- R59, ENABLE at `now`: an OFF channel goes to SETTLING; the first sample lies later than `now` (R53). -/
def enabledChannel (now : Time) (c : Channel) : Channel :=
  match c.sampler with
  | .off => { c with sampler := .settling, run := none, lastSample := none, instantTaken := some now }
  | _ => c

/-- R59, DISABLE: the sampler goes OFF, the run is emptied, the last sample is absent, and the channel is disarmed. -/
def disabledChannel (c : Channel) : Channel :=
  match c.sampler with
  | .off => c
  | _ => { disarmedChannel c with sampler := .off, run := none, lastSample := none }

/-- R64, CLEAR_SEEN. -/
def unseenChannel (c : Channel) : Channel := { c with riseSeen := false, fallSeen := false }

/-- R60, R108: CHAN_ARM on an OFF channel has no effect. -/
def armChannel (i : ChannelId) (s : State) : State :=
  if (channelAt s i).sampler = .off then s else setChannel i (armedChannel (channelAt s i)) s

/-- R61, R108: disarm, which changes nothing on a channel that is not armed. -/
def disarmChannel (i : ChannelId) (s : State) : State :=
  if (channelAt s i).armed then setChannel i (disarmedChannel (channelAt s i)) s else s

/-- R59: ENABLE of one channel. -/
def enableChannel (i : ChannelId) (s : State) : State :=
  setChannel i (enabledChannel s.timebase (channelAt s i)) s

/-- R59: DISABLE of one channel. -/
def disableChannel (i : ChannelId) (s : State) : State := setChannel i (disabledChannel (channelAt s i)) s

/-- R64: CLEAR_SEEN of one channel. -/
def clearSeen (i : ChannelId) (s : State) : State := setChannel i (unseenChannel (channelAt s i)) s

/-- All channels, in ascending index. -/
def allChannels : List ChannelId := List.finRange 16

/-- R54: a sample counts toward the run. -/
def extendRun (now : Time) (level : Bool) (run : Option Run) : Run :=
  match run with
  | some r => if r.level = level then { r with length := r.length + 1 } else { level := level, length := 1, start := now }
  | none => { level := level, length := 1, start := now }

/-- R54: the run a sample at `level` completes on this channel, if it completes one: every sample counts in SETTLING, only a sample
opposite to the filtered level counts in STABLE. -/
def completedRun (now : Time) (level : Bool) (c : Channel) : Option Run :=
  let r := extendRun now level c.run
  match c.sampler with
  | .off => none
  | .settling => if c.filterCount.toNat ≤ r.length then some r else none
  | .stable filtered => if level ≠ filtered ∧ c.filterCount.toNat ≤ r.length then some r else none

/-- R54: what a sample that completes no run leaves of the run. -/
def brokenOrLongerRun (now : Time) (level : Bool) (c : Channel) : Option Run :=
  match c.sampler with
  | .off => c.run
  | .settling => some (extendRun now level c.run)
  | .stable filtered => if level = filtered then none else some (extendRun now level c.run)

/-- R53: the present timebase value is a sample instant of the channel that has not been taken. -/
def sampleDue (now : Time) (c : Channel) : Bool :=
  c.sampler != .off && now.toNat % intervalMicros c.interval == 0 && c.instantTaken != some now

/-- R182: mode and select from their bytes. -/
def captureModeOf (mode select : Byte) : Option CaptureMode :=
  match mode.toNat, select.toNat with
  | 0, 0 => some (.edge .rise)
  | 0, 1 => some (.edge .fall)
  | 0, 2 => some (.edge .both)
  | 1, 0 => some (.width .high)
  | 1, 1 => some (.width .low)
  | 2, 0 => some (.count .rise)
  | 2, 1 => some (.count .fall)
  | 2, 2 => some (.count .both)
  | _, _ => none

/-- R182, R183: mode and select as bytes. -/
def captureModeBytes : CaptureMode → List Byte
  | .edge .rise => [0, 0]
  | .edge .fall => [0, 1]
  | .edge .both => [0, 2]
  | .width .high => [1, 0]
  | .width .low => [1, 1]
  | .count .rise => [2, 0]
  | .count .fall => [2, 1]
  | .count .both => [2, 2]

/-- The seven settings of CHAN_CFG (R62). -/
structure ChannelSettings where
  mode        : CaptureMode
  interval    : Fin 4
  filterCount : Byte
  report      : Bool
  cls         : Cls
  threshold   : Word16
  deriving DecidableEq, Repr

/-- R62, check 2: the settings, when every value is in range. -/
def channelSettings (mode select interval filterCount report cls : Byte) (threshold : Word16) : Option ChannelSettings :=
  match captureModeOf mode select, indexOf 4 interval, flagOf report, indexOf 4 cls with
  | some m, some i, some r, some c =>
    if filterCount = 0 ∨ 15 < filterCount.toNat ∨ threshold = 0 then none
    else some { mode := m, interval := i, filterCount := filterCount, report := r, cls := c, threshold := threshold }
  | _, _, _, _ => none

/-- R63: a channel takes new settings at `now`; a change of interval or filter count returns a sampling channel to SETTLING. -/
def reconfigured (now : Time) (x : ChannelSettings) (c : Channel) : Channel :=
  let c' := { c with mode := x.mode, interval := x.interval, filterCount := x.filterCount, report := x.report, cls := x.cls,
                     threshold := x.threshold }
  if c.sampler = .off ∨ (x.interval = c.interval ∧ x.filterCount = c.filterCount) then c'
  else { c' with sampler := .settling, run := none, instantTaken := some now }

/-- R62, R63: CHAN_CFG at its owner. -/
def ownerChanCfg (channel mode select interval filterCount report cls : Byte) (threshold : Word16) (s : State) : Answer :=
  match indexOf 16 channel, channelSettings mode select interval filterCount report cls threshold with
  | some i, some x =>
    if (channelAt s i).armed then refuse .active s
    else accept (setChannel i (reconfigured s.timebase x (channelAt s i)) s) []
  | _, _ => refuse .range s

/-- R64: an operation applied to every channel of the mask, in ascending index. -/
def overChannels (mask : Word16) (f : ChannelId → State → State) (s : State) : State :=
  allChannels.foldl (fun s i => if mask.getLsbD i.val then f i s else s) s

/-- R64, check 2: a channel of the mask is OFF. -/
def namesOffChannel (mask : Word16) (s : State) : Bool :=
  allChannels.any (fun i => mask.getLsbD i.val && (channelAt s i).sampler == .off)

/-- R64: CHAN_CTL at its owner; operation 0 ENABLE, 1 DISABLE, 2 ARM, 3 DISARM, 4 CLEAR_SEEN (R182). -/
def ownerChanCtl (mask : Word16) (op : Byte) (s : State) : Answer :=
  match op.toNat with
  | 0 => accept (overChannels mask enableChannel s) []
  | 1 => accept (overChannels mask disableChannel s) []
  | 2 => if namesOffChannel mask s then refuse .disabled s else accept (overChannels mask armChannel s) []
  | 3 => accept (overChannels mask disarmChannel s) []
  | 4 => accept (overChannels mask clearSeen s) []
  | _ => refuse .range s

/-- R183: sampler state byte and filtered level byte. -/
def samplerBytes : Sampler → List Byte
  | .off => [0, 0xFF]
  | .settling => [1, 0xFF]
  | .stable filtered => [2, flagByte filtered]

/-- R183: measurement byte and leading-edge time. -/
def measurementBytes : Option Measurement → List Byte
  | none => 0 :: bytes32 0
  | some m => (if m.saturated then 2 else 1) :: bytes32 m.lead

/-- R65, R183: the data of CHAN_READ. -/
def channelData (c : Channel) : List Byte :=
  samplerBytes c.sampler ++
    [flagOrAbsent c.lastSample, (if c.riseSeen then 1 else 0) + (if c.fallSeen then 2 else 0), flagByte c.armed] ++
    captureModeBytes c.mode ++ [byteOf c.interval.val, c.filterCount, flagByte c.report, byteOf c.cls.val] ++
    bytes16 c.threshold ++ bytes16 c.count ++ measurementBytes c.measurement

/-- R65: CHAN_READ at its owner. -/
def ownerChanRead (channel : Byte) (s : State) : Answer :=
  match indexOf 16 channel with
  | some i => accept s (channelData (channelAt s i))
  | none => refuse .range s

end Sys2Proof.Machine
end

