-- ==== Sys2Proof/Machine/Outputs.lean ====
section
/-! DEFINITION. Output lines (chapter 7): claims, pulse ends, the safe state, and the owner's part of OUT_WRITE, OUT_CFG and OUT_READ. -/

namespace Sys2Proof.Machine

open Sys2Proof

/-- The line an operation names. -/
def opLine : OutOp → LineId
  | .set l _ => l
  | .toggle l => l
  | .pulse l _ _ => l

/-- R122, R123: an operation taken at an unlocked line at `now`. -/
def applyClaim (now : Time) (op : OutOp) (o : Output) : Output :=
  match op with
  | .set _ level => { o with level := level, pulse := none }
  | .toggle _ => { o with level := !o.level, pulse := none }
  | .pulse _ level duration =>
    { o with level := level,
             pulse := some { endTime := now + duration.setWidth 32,
                             restore := match o.pulse with | some p => p.restore | none => o.level } }

/-- R122, R123: a claim acts on its line at the present timebase value. -/
def claim (op : OutOp) (s : State) : State :=
  setOutput (opLine op) (applyClaim s.timebase op (outputAt s (opLine op))) s

/-- R106, R128: a claim from a reaction has no effect on a locked line. -/
def reactionClaim (op : OutOp) (s : State) : State :=
  if (outputAt s (opLine op)).locked then s else claim op s

/-- R124: the end of the pulse on a line. -/
def endPulse (o : Output) : Output :=
  match o.pulse with
  | some p => { o with level := p.restore, pulse := none }
  | none => o

/-- R127: the safe state on one line: a DRIVE line loses its pulse, goes to its safe level and is locked. -/
def safeOutput (o : Output) : Output :=
  match o.policy with
  | .drive => { o with level := o.safeLevel, pulse := none, locked := true }
  | .hold => o

/-- R127: the safe state on all lines. -/
def applySafeState (s : State) : State := { s with outputs := s.outputs.map safeOutput }

/-- R129, check 1; R182: an operation read from its bytes, when its kind, line, level and duration are in range. The level of a
TOGGLE and the duration of a SET or TOGGLE are not examined. -/
def outOpOf (b : OutOpBytes) : Option OutOp :=
  match indexOf 8 b.line with
  | none => none
  | some l =>
    if b.kind = 0 then (flagOf b.level).map (fun v => .set l v)
    else if b.kind = 1 then some (.toggle l)
    else if b.kind = 2 then
      if b.duration = 0 then none else (flagOf b.level).map (fun v => .pulse l v b.duration)
    else none

/-- R129, check 1 over the whole list: the operations, when every one is in range. -/
def outOpsOf : List OutOpBytes → Option (List OutOp)
  | [] => some []
  | b :: rest =>
    match outOpOf b, outOpsOf rest with
    | some op, some ops => some (op :: ops)
    | _, _ => none

/-- R129: OUT_WRITE at its owner. -/
def ownerOutWrite (bytes : List OutOpBytes) (s : State) : Answer :=
  match outOpsOf bytes with
  | none => refuse .range s
  | some ops =>
    if ops.any (fun op => (outputAt s (opLine op)).locked) then refuse .locked s
    else accept (ops.foldl (fun s op => claim op s) s) []

/-- All lines, in ascending index. -/
def allLines : List LineId := List.finRange 8

/-- R182: policy, 0 HOLD, 1 DRIVE. -/
def policyOf (b : Byte) : Option Policy := if b = 0 then some .hold else if b = 1 then some .drive else none

/-- R183: the byte of a policy. -/
def policyByte : Policy → Byte
  | .hold => 0
  | .drive => 1

/-- R130: one line takes a policy and a safe level. -/
def configureLine (policy : Policy) (safeLevel : Bool) (l : LineId) (s : State) : State :=
  setOutput l { outputAt s l with policy := policy, safeLevel := safeLevel } s

/-- R130: OUT_CFG at its owner. -/
def ownerOutCfg (mask policy safeLevel : Byte) (s : State) : Answer :=
  match policyOf policy, flagOf safeLevel with
  | some p, some v =>
    if s.link = .stalled then refuse .state s
    else accept (allLines.foldl (fun s l => if mask.getLsbD l.val then configureLine p v l s else s) s) []
  | _, _ => refuse .range s

/-- R131, R183: the eight bytes of one line in the data of OUT_READ. DESIGN CHOICE, unsafe (log 24): taken at the end time before the pulse
end, as R125 allows, it returns the active pulse with remaining 0, which R131's subtraction gives and its range from 1 does not hold. -/
def outputData (now : Time) (o : Output) : List Byte :=
  [flagByte o.level] ++ bytes24 (match o.pulse with | some p => (p.endTime - now).setWidth 24 | none => 0) ++
    [flagOrAbsent (o.pulse.map (·.restore)), policyByte o.policy, flagByte o.safeLevel, flagByte o.locked]

/-- R131: OUT_READ at its owner. -/
def ownerOutRead (s : State) : Answer :=
  accept s (allLines.map (fun l => outputData s.timebase (outputAt s l))).flatten

end Sys2Proof.Machine
end

