-- ==== Sys2Proof/Machine/Timers.lean ====
section
/-! DEFINITION. Interval timers (chapter 5): start, stop, and the owner's part of TIMER_CFG, TIMER_CTL and TIMER_READ. The expiry itself
stands in Machine/Events.lean, since its firing pass reaches the other blocks. -/

namespace Sys2Proof.Machine

open Sys2Proof

/-- R89: a start, or restart, at `now`. -/
def startedTimer (now : Time) (t : Timer) : Timer := { t with due := some (now + t.period.setWidth 32) }

/-- R90: a stop. -/
def stoppedTimer (t : Timer) : Timer := { t with due := none }

/-- R89, R107: timer `t` starts at the present timebase value. -/
def startTimer (t : TimerId) (s : State) : State := setTimer t (startedTimer s.timebase (timerAt s t)) s

/-- R90, R107: timer `t` stops. -/
def stopTimer (t : TimerId) (s : State) : State := setTimer t (stoppedTimer (timerAt s t)) s

/-- All timers, in ascending index. -/
def allTimers : List TimerId := List.finRange 4

/-- R182: timer mode, 0 ONESHOT, 1 PERIODIC. -/
def timerModeOf (b : Byte) : Option TimerMode := if b = 0 then some .oneshot else if b = 1 then some .periodic else none

/-- R183: the byte of a timer mode. -/
def timerModeByte : TimerMode → Byte
  | .oneshot => 0
  | .periodic => 1

/-- R95, checks 1 and 2: the timer and its four settings, when all are in range. -/
def timerSettings (timer mode : Byte) (period : Word24) (report cls : Byte) :
    Option (TimerId × TimerMode × Bool × Cls) :=
  match indexOf 4 timer, timerModeOf mode, flagOf report, indexOf 4 cls with
  | some t, some m, some r, some c => if period = 0 then none else some (t, m, r, c)
  | _, _, _, _ => none

/-- R95: TIMER_CFG at its owner. -/
def ownerTimerCfg (timer mode : Byte) (period : Word24) (report cls : Byte) (s : State) : Answer :=
  match timerSettings timer mode period report cls with
  | none => refuse .range s
  | some (t, m, r, c) =>
    if (timerAt s t).due.isSome then refuse .active s
    else accept (setTimer t { timerAt s t with mode := m, period := period, report := r, cls := c } s) []

/-- R96: a TIMER_CTL operation applied to every timer of the mask, in ascending index. -/
def overTimers (mask : Byte) (f : TimerId → State → State) (s : State) : State :=
  allTimers.foldl (fun s t => if mask.getLsbD t.val then f t s else s) s

/-- R96: TIMER_CTL at its owner; operation 0 START, 1 STOP (R182). -/
def ownerTimerCtl (mask op : Byte) (s : State) : Answer :=
  if 2 ≤ op.toNat || 16 ≤ mask.toNat then refuse .range s
  else if op = 0 then accept (overTimers mask startTimer s) []
  else accept (overTimers mask stopTimer s) []

/-- R97, R183: the data of TIMER_READ. DESIGN CHOICE, unsafe (log 24): taken at the due time before the expiry, as R94 allows, it returns
RUNNING with remaining 0, which R97's subtraction gives and the range 1..period of R88 and R97 does not hold. -/
def timerData (now : Time) (t : Timer) : List Byte :=
  [flagByte t.due.isSome, timerModeByte t.mode] ++ bytes24 t.period ++ [flagByte t.report, byteOf t.cls.val] ++
    bytes32 (t.due.getD 0) ++
    bytes24 (match t.due with | some due => (due - now).setWidth 24 | none => 0) ++
    bytes16 t.expiryCount

/-- R97: TIMER_READ at its owner. -/
def ownerTimerRead (timer : Byte) (s : State) : Answer :=
  match indexOf 4 timer with
  | some t => accept s (timerData s.timebase (timerAt s t))
  | none => refuse .range s

end Sys2Proof.Machine
end

