-- ==== Sys2Proof/Machine/Reactions.lean ====
section
/-! DEFINITION. The reaction table (chapter 6): triggers, actions, the firing pass, and the owner's part of REACT_LOAD, REACT_CTL and
REACT_READ. -/

namespace Sys2Proof.Machine

open Sys2Proof

/-- R102: the event comes from the named source. An expiry comes from a timer, every other event from a channel. -/
def fromSource (ev : Content) : TriggerSource → Bool
  | .channel i => (match ev.kind with | .expiry _ => false | _ => true) && ev.source.val == i.val
  | .timer t => (match ev.kind with | .expiry _ => true | _ => false) && ev.source.val == t.val

/-- R102: the event meets the qualifier. -/
def meetsQualifier (ev : Content) (width : Word24) : Qualifier → Bool
  | .any => true
  | .rise => ev.kind == .edge .rise
  | .fall => ev.kind == .edge .fall
  | .atLeast => match ev.kind with | .width _ w _ => width.toNat ≤ w.toNat | _ => false
  | .below => match ev.kind with | .width _ w _ => w.toNat < width.toNat | _ => false

/-- R102: the event matches the trigger. -/
def matchesTrigger (ev : Content) (c : EntryContents) : Bool :=
  fromSource ev c.source && meetsQualifier ev c.width c.qualifier

/-- R101, R109: an arm reloads remaining; an EMPTY entry is not changed. -/
def armedEntry (e : Entry) : Entry :=
  match e.state with
  | .empty => e
  | .disarmed c => { e with state := .armed c, remaining := c.fireLimit }
  | .armed c => { e with state := .armed c, remaining := c.fireLimit }

/-- R101, R109: a disarm keeps remaining. -/
def disarmedEntry (e : Entry) : Entry :=
  match e.state with
  | .armed c => { e with state := .disarmed c }
  | _ => e

/-- R109, R118: entry `i` is armed. -/
def armEntry (i : EntryId) (s : State) : State := setEntry i (armedEntry (entryAt s i)) s

/-- R109, R118: entry `i` is disarmed. -/
def disarmEntry (i : EntryId) (s : State) : State := setEntry i (disarmedEntry (entryAt s i)) s

/-- R118: CLEAR. -/
def clearEntry (i : EntryId) (s : State) : State := setEntry i Entry.default s

/-- R105 to R110: one action of entry `i`, run in the pass of event `ev`. -/
def runAction (ev : Content) (i : EntryId) (s : State) : Action → State
  | .out op => reactionClaim op s
  | .timerStart t => startTimer t s
  | .timerStop t => stopTimer t s
  | .chanArm c => armChannel c s
  | .chanDisarm c => disarmChannel c s
  | .reactArm j => armEntry j s
  | .reactDisarm j => disarmEntry j s
  | .post c tag => offer c { kind := .post tag, source := i, timestamp := ev.timestamp } s

/-- R113, steps 3 and 4: an entry that is ARMED at the end of its list spends one firing; at 0 it is DISARMED and offers its DONE record. -/
def spendFiring (ev : Content) (i : EntryId) (s : State) : State :=
  let e := entryAt s i
  match e.state with
  | .armed c =>
    if c.fireLimit = 0 then s
    else if e.remaining - 1 = 0 then
      let s' := setEntry i { e with state := .disarmed c, remaining := 0 } s
      if c.reportDone then offer c.doneClass { kind := .done, source := i, timestamp := ev.timestamp } s' else s'
    else setEntry i { e with remaining := e.remaining - 1 } s
  | _ => s

/-- R113, step 2. -/
def countFiring (i : EntryId) (s : State) : State :=
  setEntry i { entryAt s i with fires := (entryAt s i).fires + 1 } s

/-- R112, R113: a candidate's turn; it fires if it is ARMED at that moment. -/
def takeCandidate (ev : Content) (s : State) (i : EntryId) : State :=
  match (entryAt s i).state with
  | .armed c => spendFiring ev i (countFiring i ((c.actions.map (·.action)).foldl (runAction ev i) s))
  | _ => s

/-- All entries, in ascending index. -/
def allEntries : List EntryId := List.finRange 16

/-- R111: an entry is a candidate of an event's pass. -/
def isCandidate (ev : Content) (s : State) (i : EntryId) : Bool :=
  match (entryAt s i).state with
  | .armed c => matchesTrigger ev c
  | _ => false

/-- R111, R112: the firing pass of an event: the candidate set is fixed at arrival and taken in ascending index. -/
def firingPass (ev : Content) (s : State) : State :=
  (allEntries.filter (isCandidate ev s)).foldl (takeCandidate ev) s

/-- R104, R182: an action read from its bytes, when its kind and the operands it uses are in range. -/
def actionOf (b : ActionBytes) : Option Action :=
  match b.kind.toNat with
  | 1 => match indexOf 8 b.o1, flagOf b.o2 with
         | some l, some v => some (.out (.set l v))
         | _, _ => none
  | 2 => (indexOf 8 b.o1).map (fun l => .out (.toggle l))
  | 3 => match indexOf 8 b.o1, flagOf b.o2 with
         | some l, some v => if join24 b.o3 b.o4 b.o5 = 0 then none else some (.out (.pulse l v (join24 b.o3 b.o4 b.o5)))
         | _, _ => none
  | 4 => (indexOf 4 b.o1).map .timerStart
  | 5 => (indexOf 4 b.o1).map .timerStop
  | 6 => (indexOf 16 b.o1).map .chanArm
  | 7 => (indexOf 16 b.o1).map .chanDisarm
  | 8 => (indexOf 16 b.o1).map .reactArm
  | 9 => (indexOf 16 b.o1).map .reactDisarm
  | 10 => (indexOf 4 b.o1).map (fun c => .post c b.o2)
  | _ => none

/-- R182: kind and used operand bytes of an action, in their order. -/
def actionUsedBytes : Action → List Byte
  | .out (.set l v) => [1, byteOf l.val, flagByte v]
  | .out (.toggle l) => [2, byteOf l.val]
  | .out (.pulse l v d) => [3, byteOf l.val, flagByte v] ++ bytes24 d
  | .timerStart t => [4, byteOf t.val]
  | .timerStop t => [5, byteOf t.val]
  | .chanArm c => [6, byteOf c.val]
  | .chanDisarm c => [7, byteOf c.val]
  | .reactArm i => [8, byteOf i.val]
  | .reactDisarm i => [9, byteOf i.val]
  | .post c tag => [10, byteOf c.val, tag]

/-- R182: an action of REACT_LOAD as six bytes. -/
def actionParamBytes (b : ActionBytes) : List Byte := [b.kind, b.o1, b.o2, b.o3, b.o4, b.o5]

/-- R182, R183: an action as it is loaded, its unused operand bytes with it (log 8). -/
def loadedActionOf (b : ActionBytes) : Option LoadedAction :=
  (actionOf b).map (fun a => { action := a, unused := (actionParamBytes b).drop (actionUsedBytes a).length })

/-- R117, check 4 over the whole list. -/
def actionsOf : List ActionBytes → Option (List LoadedAction)
  | [] => some []
  | b :: rest =>
    match loadedActionOf b, actionsOf rest with
    | some a, some as => some (a :: as)
    | _, _ => none

/-- R117, check 2; R182: source kind 0 CHANNEL, 1 TIMER, with an index in range. -/
def sourceOf (kind index : Byte) : Option TriggerSource :=
  if kind = 0 then (indexOf 16 index).map .channel
  else if kind = 1 then (indexOf 4 index).map .timer
  else none

/-- R117, check 2; R182: the qualifier, which must be ANY for a timer. -/
def qualifierOf (source : TriggerSource) (b : Byte) : Option Qualifier :=
  match source, b.toNat with
  | _, 0 => some .any
  | .channel _, 1 => some .rise
  | .channel _, 2 => some .fall
  | .channel _, 3 => some .atLeast
  | .channel _, 4 => some .below
  | _, _ => none

/-- R117, checks 2 to 4: the contents, when every value is in range. -/
def contentsOf (kind index qualifier : Byte) (width : Word24) (fireLimit doneClass reportDone : Byte) (actions : List ActionBytes) :
    Option EntryContents :=
  match sourceOf kind index, indexOf 4 doneClass, flagOf reportDone, actionsOf actions with
  | some source, some c, some r, some as =>
    (qualifierOf source qualifier).map (fun q =>
      { source := source, qualifier := q, width := width, fireLimit := fireLimit, doneClass := c, reportDone := r, actions := as })
  | _, _, _, _ => none

/-- R117: REACT_LOAD at its owner. -/
def ownerReactLoad (entry kind index qualifier : Byte) (width : Word24) (fireLimit doneClass reportDone : Byte)
    (actions : List ActionBytes) (s : State) : Answer :=
  match indexOf 16 entry, contentsOf kind index qualifier width fireLimit doneClass reportDone actions with
  | some i, some c =>
    match (entryAt s i).state with
    | .armed _ => refuse .active s
    | _ => accept (setEntry i { state := .disarmed c, remaining := 0, fires := 0 } s) []
  | _, _ => refuse .range s

/-- R118: an operation applied to every entry of the mask, in ascending index. -/
def overEntries (mask : Word16) (f : EntryId → State → State) (s : State) : State :=
  allEntries.foldl (fun s i => if mask.getLsbD i.val then f i s else s) s

/-- R118, check 2: an entry of the mask is EMPTY. -/
def namesEmptyEntry (mask : Word16) (s : State) : Bool :=
  allEntries.any (fun i => mask.getLsbD i.val && (entryAt s i).state == .empty)

/-- R118: REACT_CTL at its owner; operation 0 ARM, 1 DISARM, 2 CLEAR (R182). -/
def ownerReactCtl (mask : Word16) (op : Byte) (s : State) : Answer :=
  match op.toNat with
  | 0 => if namesEmptyEntry mask s then refuse .disabled s else accept (overEntries mask armEntry s) []
  | 1 => accept (overEntries mask disarmEntry s) []
  | 2 => accept (overEntries mask clearEntry s) []
  | _ => refuse .range s

/-- R183: an action as six bytes, as it was loaded. -/
def actionBytes (a : LoadedAction) : List Byte := actionUsedBytes a.action ++ a.unused

/-- R182, R183: source kind and index. -/
def sourceBytes : TriggerSource → List Byte
  | .channel i => [0, byteOf i.val]
  | .timer t => [1, byteOf t.val]

/-- R182, R183: qualifier. -/
def qualifierByte : Qualifier → Byte
  | .any => 0
  | .rise => 1
  | .fall => 2
  | .atLeast => 3
  | .below => 4

/-- R119, R183: contents of a loaded entry in the data of REACT_READ, from the action count on. -/
def contentsData (remaining : Byte) (c : EntryContents) : List Byte :=
  [byteOf c.actions.length] ++ sourceBytes c.source ++ [qualifierByte c.qualifier] ++ bytes24 c.width ++
    [c.fireLimit, remaining, byteOf c.doneClass.val, flagByte c.reportDone] ++ (c.actions.map actionBytes).flatten

/-- R119, R183: the data of REACT_READ. -/
def entryData (e : Entry) : List Byte :=
  match e.state with
  | .empty => [0] ++ bytes16 e.fires ++ [0]
  | .disarmed c => [1] ++ bytes16 e.fires ++ contentsData e.remaining c
  | .armed c => [2] ++ bytes16 e.fires ++ contentsData e.remaining c

/-- R119: REACT_READ at its owner. -/
def ownerReactRead (entry : Byte) (s : State) : Answer :=
  match indexOf 16 entry with
  | some i => accept s (entryData (entryAt s i))
  | none => refuse .range s

end Sys2Proof.Machine
end

