-- ==== Sys2Proof/Machine/Capture.lean ====
section
/-! DEFINITION. Capture modes (chapter 4) and what one sample does on a channel (R54 to R58): an edge handed to the Capture Unit, the
capture event it makes, its offer and its firing pass. -/

namespace Sys2Proof.Machine

open Sys2Proof

/-- R76, R77: the largest width, at which a measurement is held. -/
def maxWidth : Nat := 16777215

/-- R83: a capture event is offered when the channel reports, and is then handed to the Reaction Engine. -/
def captureEvent (i : ChannelId) (ev : Content) (s : State) : State :=
  let s' := if (channelAt s i).report then offer (channelAt s i).cls ev s else s
  firingPass ev s'

/-- R73, R80: the select of EDGE and COUNT mode allows the direction. -/
def selects : EdgeSelect → Direction → Bool
  | .both, _ => true
  | .rise, .rise => true
  | .fall, .fall => true
  | _, _ => false

/-- R74: the edge enters the active level of the polarity. -/
def isLeading (p : Polarity) (d : Direction) : Bool :=
  match p, d with
  | .high, .rise => true
  | .low, .fall => true
  | _, _ => false

/-- R75: the saturation point of a measurement that begins at `lead`. -/
def saturationOf (lead : Time) (c : Channel) : Time :=
  lead + BitVec.ofNat 32 (maxWidth + (c.filterCount.toNat - 1) * intervalMicros c.interval)

/-- R76: the width a trailing edge at `time` gives. -/
def measuredWidth (m : Measurement) (time : Time) : Nat :=
  if m.saturated then maxWidth else min (time - m.lead).toNat maxWidth

/-- R73: an edge in EDGE mode. -/
def captureEdge (i : ChannelId) (select : EdgeSelect) (d : Direction) (time : Time) (s : State) : State :=
  if selects select d then captureEvent i { kind := .edge d, source := i, timestamp := time } s else s

/-- R75: a leading edge in WIDTH mode begins a measurement; it never finds one (log 19). -/
def beginWidth (i : ChannelId) (time : Time) (s : State) : State :=
  let c := channelAt s i
  if c.measurement.isSome then s
  else setChannel i { c with measurement := some { lead := time, saturated := false, saturationPoint := saturationOf time c } } s

/-- R76: a trailing edge in WIDTH mode ends the measurement it finds and makes a capture event. -/
def endWidth (i : ChannelId) (p : Polarity) (time : Time) (s : State) : State :=
  let c := channelAt s i
  match c.measurement with
  | none => s
  | some m =>
    let w := measuredWidth m time
    captureEvent i { kind := .width p (BitVec.ofNat 24 w) (w == maxWidth), source := i, timestamp := m.lead }
      (setChannel i { c with measurement := none } s)

/-- R80: an edge in COUNT mode. -/
def captureCount (i : ChannelId) (select : EdgeSelect) (d : Direction) (time : Time) (s : State) : State :=
  let c := channelAt s i
  if selects select d then
    if c.count + 1 = c.threshold then
      captureEvent i { kind := .count c.threshold, source := i, timestamp := time } (setChannel i { c with count := 0 } s)
    else setChannel i { c with count := c.count + 1 } s
  else s

/-- R72: the Capture Unit handles an edge according to the mode. -/
def handEdge (i : ChannelId) (d : Direction) (time : Time) (s : State) : State :=
  match (channelAt s i).mode with
  | .edge select => captureEdge i select d time s
  | .width p => if isLeading p d then beginWidth i time s else endWidth i p time s
  | .count select => captureCount i select d time s

/-- R56: the direction of an edge to a level. -/
def directionTo (level : Bool) : Direction := if level then .rise else .fall

/-- R56, R58: the channel after it has recognized an edge to `level`. -/
def edgeSeen (level : Bool) (c : Channel) : Channel :=
  { c with sampler := .stable level, run := none, riseSeen := c.riseSeen || level, fallSeen := c.fallSeen || !level }

/-- R56, R57: an edge to `level` whose run began at `time` is recognized, and handed to the Capture Unit when the channel is armed. -/
def recognizeEdge (i : ChannelId) (level : Bool) (time : Time) (s : State) : State :=
  let s' := setChannel i (edgeSeen level (channelAt s i)) s
  if (channelAt s i).armed then handEdge i (directionTo level) time s' else s'

/-- R55: the baseline. -/
def settleAt (i : ChannelId) (level : Bool) (s : State) : State :=
  setChannel i { channelAt s i with sampler := .stable level, run := none } s

/-- R53: the line stands at `level` and the sample of this instant is taken; it becomes the last sample. -/
def noteSample (i : ChannelId) (level : Bool) (s : State) : State :=
  setChannel i { channelAt s i with lastSample := some level, instantTaken := some s.timebase }
    { s with inputs := s.inputs.set i level }

/-- R54 to R58: one sample of channel `i` at `level`, taken whole with the edge it may complete. It is taken only at a sample
instant of a sampling channel, once. -/
def sample (i : ChannelId) (level : Bool) (s : State) : State :=
  let c := channelAt s i
  if sampleDue s.timebase c then
    match completedRun s.timebase level c, c.sampler with
    | some _, .settling => settleAt i level (noteSample i level s)
    | some r, .stable _ => recognizeEdge i level r.start (noteSample i level s)
    | _, _ =>
      let s' := noteSample i level s
      setChannel i { channelAt s' i with run := brokenOrLongerRun s.timebase level c } s'
  else s

end Sys2Proof.Machine
end

