-- ==== Sys2Proof/Machine/Classes.lean ====
section
/-! DEFINITION. The owner's part of CLASS_CFG, CLASS_READ, FLUSH (chapter 1) and TIME_READ (chapter 4). -/

namespace Sys2Proof.Machine

open Sys2Proof

/-- R21, checks 2 to 4: the values are in range for class `c`. -/
def classValuesInRange (c : Cls) (limit batchMin frameMax reserve : Byte) : Bool :=
  (1 ≤ limit.toNat && limit.toNat ≤ 128) && (1 ≤ batchMin.toNat && batchMin.toNat ≤ 8) &&
    (1 ≤ frameMax.toNat && frameMax.toNat ≤ 8) && (c != 0 || reserve.toNat ≤ 16) && batchMin.toNat ≤ frameMax.toNat

/-- R4, R21: the records of C1 to C3 together. -/
def lowerOccupancy (s : State) : Nat :=
  occupancy (classAt s 1) + occupancy (classAt s 2) + occupancy (classAt s 3)

/-- R21, checks 5 and 6: the present occupancy fits the new limit, and that of C1 to C3 the new reserve. -/
def occupancyFits (c : Cls) (limit reserve : Byte) (s : State) : Bool :=
  occupancy (classAt s c) ≤ limit.toNat && (c != 0 || lowerOccupancy s ≤ Config.poolSlots - reserve.toNat)

/-- R20: the settings of class `c`, and the pool's reserve when `c` is C0. -/
def configureClass (c : Cls) (limit batchMin batchHold frameMax reserve : Byte) (s : State) : State :=
  let s' := setClass c { classAt s c with limit := limit, batchMin := batchMin, batchHold := batchHold, frameMax := frameMax } s
  if c = 0 then { s' with reserve := reserve } else s'

/-- R20, R21: CLASS_CFG at its owner. -/
def ownerClassCfg (cls limit batchMin batchHold frameMax reserve : Byte) (s : State) : Answer :=
  match indexOf 4 cls with
  | none => refuse .range s
  | some c =>
    if !classValuesInRange c limit batchMin frameMax reserve then refuse .range s
    else if !occupancyFits c limit reserve s then refuse .occupied s
    else accept (configureClass c limit batchMin batchHold frameMax reserve s) []

/-- R22, R183: the data of CLASS_READ. -/
def classData (s : State) (x : ClassState) : List Byte :=
  [byteOf x.unsent.length, byteOf (inFlight x).length, match x.frame with | some f => f.seq | none => 0, byteOf x.retryCount,
    x.limit, x.batchMin, x.batchHold, x.frameMax] ++ bytes16 x.lostPending ++ bytes16 x.nextNumber ++
    [x.nextSeq, byteOf (freeCount s), s.reserve]

/-- R22: CLASS_READ at its owner. -/
def ownerClassRead (cls : Byte) (s : State) : Answer :=
  match indexOf 4 cls with
  | some c => accept s (classData s (classAt s c))
  | none => refuse .range s

/-- R23: FLUSH at its owner; its data are the records freed and the lost_pending cleared. -/
def ownerFlush (cls : Byte) (s : State) : Answer :=
  match indexOf 4 cls with
  | some c =>
    let x := classAt s c
    accept (setClass c (emptyClass x) s) (byteOf (occupancy x) :: bytes16 x.lostPending)
  | none => refuse .range s

/-- R71, R183: TIME_READ at its owner. -/
def ownerTimeRead (s : State) : Answer :=
  accept s (bytes32 s.timebase ++
    [byteOf (classAt s 0).unsent.length, byteOf (classAt s 1).unsent.length, byteOf (classAt s 2).unsent.length,
      byteOf (classAt s 3).unsent.length, byteOf (freeCount s)])

end Sys2Proof.Machine
end

