-- ==== Sys2Proof/Machine/Link.lean ====
section
/-! DEFINITION. The Link Controller (chapter 8): sessions, QUIET and RESUME, stall entry, the effects of the RESET scopes and of a hard
reset, and the owner's part of the requests of the link. -/

namespace Sys2Proof.Machine

open Sys2Proof

/-! ### Stall entry (R141, R142) -/

/-- R141: stall entry from UP, with the STALL notice of its cause; a cause that arrives in another state changes nothing (R142). -/
def stallEntry (cause : Notice) (s : State) : State :=
  if s.link = .up then
    applySafeState
      { s with link := .stalled, classes := s.classes.map returnFrame, silenceDue := none, notices := placeNotice cause s.notices }
  else s

/-! ### Effects of a RESET request (R149 to R151) and defaults of a hard reset (R152) -/

/-- R26, R51: a class after a LINK reset or a HELLO: the frame returned, next_seq 0. -/
def restartClass (c : ClassState) : ClassState := { returnFrame c with nextSeq := 0 }

/-- R25, R51: a class after a CAPTURE reset: defaults, with next_seq kept. -/
def captureResetClass (batchHold : Byte) (c : ClassState) : ClassState :=
  { ClassState.default batchHold with nextSeq := c.nextSeq }

/-- R149: a RESET of scope LINK takes effect. -/
def linkReset (s : State) : State :=
  clearLocks
    { s with link := .down, classes := s.classes.map restartClass, silenceDue := none, requestQueue := [], replyQueue := [],
             replyCache := [], notices := [], pendingReset := none }

/-- R150: a RESET of scope CAPTURE takes effect. -/
def captureReset (s : State) : State :=
  { s with classes := #v[captureResetClass 0 (classAt s 0), captureResetClass 5 (classAt s 1), captureResetClass 20 (classAt s 2),
                         captureResetClass 100 (classAt s 3)],
           reserve := 4, channels := Vector.replicate 16 Channel.default, timers := Vector.replicate 4 Timer.default,
           entries := Vector.replicate 16 Entry.default, outputs := Vector.replicate 8 Output.default, pendingReset := none }

/-- R152: every block at its defaults; what is not the part's own is kept: the levels of the field lines and the commands that wait. -/
def hardDefaults (s : State) : State :=
  { State.defaults with inputs := s.inputs, pending := s.pending }

/-- R151, R184: a RESET of scope ALL takes effect: the state of a hard reset, but the link rate is kept and the BOOT notice has cause
REQUEST. RXD is not the part's own, so a receiver that waits for it to return to 1 goes on waiting (log 11); a rate
change before it is forgotten (log 22). -/
def allReset (s : State) : State := { hardDefaults s with rate := s.rate, rxHeld := s.rxHeld, notices := [.bootRequest] }

/-- R148: the pending reset takes effect in its scope. -/
def takeReset (scope : Scope) (s : State) : State :=
  match scope with
  | .link => linkReset s
  | .capture => captureReset s
  | .all => allReset s

/-- R172: the rate held with a LINK_CFG reply takes effect; a change abandons the frame the receiver is collecting, and its moment is kept,
as a character whose start bit was taken before it is dropped, and a frame that was open then is counted (log 22). -/
def changeRate (r : RateCode) (s : State) : State :=
  if r = s.rate then s
  else
    let changed := fun counted : Bool => { s with rate := r, rateChange := some { time := s.timebase, frameCounted := counted } }
    if s.rx = .hunt then changed false else countDiscard { changed true with rx := .hunt, candidate := [], gapDue := none }

/-! ### Requests of the link -/

/-- R136: the number of the next session: from 255 to 1, skipping 0. -/
def nextSession (n : Byte) : Byte := if n = 255 then 1 else n + 1

/-- R137: the effects of HELLO, with the reply cache cleared (R163). -/
def openSession (s : State) : State :=
  clearLocks
    { s with session := nextSession s.session, link := .up, classes := s.classes.map restartClass,
             silenceDue := silenceStart s, replyCache := [] }

/-- R138, R183: the data of the HELLO reply. -/
def helloData (session : Byte) : List Byte := [session, 0x41, 16, 8, 4, 16, 4, 128]

/-- R137, R138: HELLO at its owner. -/
def ownerHello (s : State) : Answer := accept (openSession s) (helloData (nextSession s.session))

/-- R182: scope, 0 LINK, 1 CAPTURE, 2 ALL. -/
def scopeOf (b : Byte) : Option Scope :=
  if b = 0 then some .link else if b = 1 then some .capture else if b = 2 then some .all else none

/-- R148: RESET at its owner: only the pending reset is set. -/
def ownerReset (scope : Byte) (s : State) : Answer :=
  match scopeOf scope with
  | some x => accept { s with pendingReset := some x } []
  | none => refuse .range s

/-- R49, R144: LINK_CFG at its owner: three values at once, the rate code held with the reply; an UP link restarts or stops its silence
timer. -/
def ownerLinkCfg (rate timeout retryLimit silenceLimit : Byte) (s : State) : Answer :=
  match indexOf 8 rate with
  | none => refuse .range s
  | some r =>
    if timeout = 0 ∨ 15 < retryLimit.toNat then refuse .range s
    else
      let s' := { s with retransmitTimeout := timeout, retryLimit := retryLimit, silenceLimit := silenceLimit }
      let s'' := if s.link = .up then { s' with silenceDue := silenceStart s' } else s'
      { accept s'' [] with rate := some r }

/-- R183: link state byte; DOWN is never sent. -/
def linkByte : LinkState → Byte
  | .down => 0
  | .up => 1
  | .quiet _ => 2
  | .stalled => 3

/-- R182: the byte of a wake class, 0xFF for NONE. -/
def wakeByte : LinkState → Byte
  | .quiet (some c) => byteOf c.val
  | _ => 0xFF

/-- R153, R183: the data of LINK_READ. The request has left its queue, and its reply has not joined the reply queue. -/
def linkData (s : State) : List Byte :=
  [linkByte s.link, s.session, wakeByte s.link, flagByte s.attn, byteOf s.rate.val, s.retransmitTimeout, s.retryLimit,
    s.silenceLimit, byteOf s.requestQueue.length, byteOf s.replyQueue.length] ++ bytes16 s.discards

/-- R153: LINK_READ at its owner. -/
def ownerLinkRead (clear : Byte) (s : State) : Answer :=
  match flagOf clear with
  | some true => accept { s with discards := 0 } (linkData s)
  | some false => accept s (linkData s)
  | none => refuse .range s

/-- R182: wake class, 0..3 or 0xFF for NONE. -/
def wakeOf (b : Byte) : Option (Option Cls) := if b = 0xFF then some none else (indexOf 4 b).map some

/-- R139: QUIET at its owner. -/
def ownerQuiet (wake : Byte) (s : State) : Answer :=
  match wakeOf wake with
  | none => refuse .range s
  | some w =>
    if s.link = .up then accept { s with link := .quiet w, classes := s.classes.map holdFrame, silenceDue := none } []
    else refuse .state s

/-- R140: RESUME at its owner; in DOWN the generic checks have refused it. -/
def ownerResume (s : State) : Answer :=
  match s.link with
  | .quiet _ =>
    accept { s with link := .up, classes := s.classes.map (unholdFrame (retransmitDue s)), silenceDue := silenceStart s } []
  | .stalled => accept (clearLocks { s with link := .up, silenceDue := silenceStart s }) []
  | _ => refuse .state s

end Sys2Proof.Machine
end

