-- ==== Sys2Proof/WellFormed.lean ====
section
/-! DEFINITION. Which commands can occur on the link at all: a frame body is 3 to 250 bytes (R180), an OUT_WRITE carries 1 to 8
operations and a REACT_LOAD 1 to 4 actions (R182), a row of the table names frames of its own kind only. The machine does not
depend on these checks: it answers every command. -/

namespace Sys2Proof

/-- The request codes of section 9.6. -/
def requestCodes : List Byte :=
  [0x01, 0x02, 0x03, 0x04, 0x05, 0x06, 0x07, 0x10, 0x11, 0x12, 0x18, 0x19, 0x1A, 0x20, 0x21, 0x22, 0x28, 0x29, 0x2A, 0x30, 0x31,
    0x32]

/-- A frame whose type byte is followed by `n` bytes has a LEN of 3 to 250 (R180). -/
def bodyFits (n : Nat) : Bool := 2 ≤ n && n ≤ 249

/-- The checks on a command, by its form alone. -/
def Instr.wellFormed : Instr → Bool
  | .reactLoad _ _ _ _ _ _ _ _ _ actions => 1 ≤ actions.length && actions.length ≤ 4
  | .outWriteSet _ _ _ _ rest => rest.length ≤ 7
  | .outWriteToggle _ _ _ _ rest => rest.length ≤ 7
  | .outWritePulse _ _ _ _ rest => rest.length ≤ 7
  | .unknownCodeRequest _ code params => !requestCodes.contains code && bodyFits (params.length + 2)
  | .requestFrame _ _ params => bodyFits (params.length + 2)
  | .ackWrongLength rest => bodyFits rest.length && rest.length != 3
  | .unknownTypeFrame type rest => bodyFits rest.length && type != 0x51 && type != 0x52
  | .frameDiscard (.lenOutOfRange b) => b.toNat < 3 || 250 < b.toNat
  | _ => true

end Sys2Proof
end

