-- ==== Sys2Proof/Machine/Handler.lean ====
section
/-! DEFINITION. The Request Handler (chapter 9): the generic checks, execution at the owners, the reply in queue and cache, the take,
screening, and the frame every command's effect is put in (`event`), in which the handler goes on. -/

namespace Sys2Proof.Machine

open Sys2Proof

/-! ### The reply cache (R155, R156) -/

/-- R155, step 1: the cached reply of a request alike in tag, code and parameters. -/
def cachedReply (r : Request) (s : State) : Option Reply :=
  (s.replyCache.find? (fun e => e.request == r)).map (·.reply)

/-- R156: a replay carries the reply as it was formed, marked as taken from the cache; it starts no reset and no rate change. -/
def replayed (r : Reply) : Reply := { r with formed := false, rate := none }

/-! ### Execution (R159, R160) -/

/-- R182: the operations of an OUT_WRITE or the actions of a REACT_LOAD stand in groups of six bytes. -/
def groupsOfSix : List Byte → List (Byte × Byte × Byte × Byte × Byte × Byte)
  | a :: b :: c :: d :: e :: f :: rest => (a, b, c, d, e, f) :: groupsOfSix rest
  | _ => []

/-- R182: the actions of a REACT_LOAD. -/
def actionGroups (bytes : List Byte) : List ActionBytes :=
  (groupsOfSix bytes).map (fun (k, a, b, c, d, e) => { kind := k, o1 := a, o2 := b, o3 := c, o4 := d, o5 := e })

/-- R182: the operations of an OUT_WRITE. -/
def outOpGroups (bytes : List Byte) : List OutOpBytes :=
  (groupsOfSix bytes).map (fun (l, k, v, a, b, c) => { line := l, kind := k, level := v, duration := join24 a b c })

/-- R182: a counted list agrees with its count and the count is in 1 to `most`. -/
def countAgrees (count : Byte) (bytes : Nat) (most : Nat) : Bool :=
  1 ≤ count.toNat && count.toNat ≤ most && bytes == 6 * count.toNat

/-- R159, check 2: the parameter length is the one R182 gives for the code. -/
def lengthFits (code : Byte) (params : List Byte) : Bool :=
  match code.toNat with
  | 0x01 => params.length == 0
  | 0x02 => params.length == 1
  | 0x03 => params.length == 4
  | 0x04 => params.length == 1
  | 0x05 => params.length == 1
  | 0x06 => params.length == 0
  | 0x07 => params.length == 0
  | 0x10 => params.length == 9
  | 0x11 => params.length == 3
  | 0x12 => params.length == 1
  | 0x18 => params.length == 6
  | 0x19 => params.length == 1
  | 0x1A => params.length == 1
  | 0x20 => params.length == 7
  | 0x21 => params.length == 2
  | 0x22 => params.length == 1
  | 0x28 => (match params with
             | _ :: _ :: _ :: _ :: _ :: _ :: _ :: _ :: _ :: _ :: n :: rest => countAgrees n rest.length 4
             | _ => false)
  | 0x29 => params.length == 3
  | 0x2A => params.length == 1
  | 0x30 => (match params with
             | n :: rest => countAgrees n rest.length 8
             | [] => false)
  | 0x31 => params.length == 3
  | 0x32 => params.length == 0
  | _ => false

/-- R159, check 4: the request at its owner, by the table of section 9.6. The last arm is never reached: the length has been checked. -/
def ownerOf (code : Byte) (params : List Byte) (s : State) : Answer :=
  match code.toNat, params with
  | 0x01, _ => ownerHello s
  | 0x02, [scope] => ownerReset scope s
  | 0x03, [rate, timeout, retries, silence] => ownerLinkCfg rate timeout retries silence s
  | 0x04, [clear] => ownerLinkRead clear s
  | 0x05, [wake] => ownerQuiet wake s
  | 0x06, _ => ownerResume s
  | 0x07, _ => ownerTimeRead s
  | 0x10, [i, m, sel, iv, n, rep, c, th1, th0] => ownerChanCfg i m sel iv n rep c (join16 th1 th0) s
  | 0x11, [m1, m0, op] => ownerChanCtl (join16 m1 m0) op s
  | 0x12, [i] => ownerChanRead i s
  | 0x18, [c, limit, batchMin, batchHold, frameMax, reserve] => ownerClassCfg c limit batchMin batchHold frameMax reserve s
  | 0x19, [c] => ownerClassRead c s
  | 0x1A, [c] => ownerFlush c s
  | 0x20, [t, m, p2, p1, p0, rep, c] => ownerTimerCfg t m (join24 p2 p1 p0) rep c s
  | 0x21, [mask, op] => ownerTimerCtl mask op s
  | 0x22, [t] => ownerTimerRead t s
  | 0x28, i :: k :: x :: q :: w2 :: w1 :: w0 :: fl :: dc :: rd :: _ :: rest =>
      ownerReactLoad i k x q (join24 w2 w1 w0) fl dc rd (actionGroups rest) s
  | 0x29, [m1, m0, op] => ownerReactCtl (join16 m1 m0) op s
  | 0x2A, [i] => ownerReactRead i s
  | 0x30, _ :: rest => ownerOutWrite (outOpGroups rest) s
  | 0x31, [mask, policy, safeLevel] => ownerOutCfg mask policy safeLevel s
  | 0x32, _ => ownerOutRead s
  | _, _ => refuse .length s

/-- R159: the checks of a request that has been taken, in their order, and its execution. -/
def execute (r : Request) (s : State) : Answer :=
  if !requestCodes.contains r.code then refuse .unknown s
  else if !lengthFits r.code r.params then refuse .length s
  else if s.link = .down ∧ r.code ≠ 0x01 ∧ r.code ≠ 0x02 then refuse .noSession s
  else ownerOf r.code r.params s

/-! ### Reply and take (R158, R161) -/

/-- R161: the reply formed by the execution of a request. -/
def formReply (r : Request) (a : Answer) : Reply :=
  { tag := r.tag, code := r.code, status := a.status, data := a.data, formed := true, rate := a.rate }

/-- R161: a new entry joins the cache as its newest; an entry of the same tag is removed, else the oldest of a full cache. -/
def cacheWith (e : CacheEntry) (cache : List CacheEntry) : List CacheEntry :=
  let others := cache.filter (fun x => x.request.tag != e.request.tag)
  (if others.length < Config.replyCacheSize then others else others.drop 1) ++ [e]

/-- R158, R161: a request is executed and its reply is placed in the reply queue and in the reply cache. -/
def answer (r : Request) (s : State) : State :=
  let a := execute r s
  let reply := formReply r a
  { a.state with replyQueue := a.state.replyQueue ++ [reply], replyCache := cacheWith { request := r, reply := reply } a.state.replyCache }

/-- R158: the handler may take the head of its request queue. -/
def canTake (s : State) : Bool :=
  !s.requestQueue.isEmpty && s.replyQueue.length < Config.replyQueueSize && s.pendingReset.isNone

/-- R158: the handler takes the request at the head of its queue, when its three conditions hold. -/
def takeHead (s : State) : State :=
  match s.requestQueue with
  | r :: rest => if canTake s then answer r { s with requestQueue := rest } else s
  | [] => s

/-! ### Screening (R155, R158) -/

/-- R155: the screening of a request at its arrival. One that joins the queue is taken at its arrival when R158 allows it (log 3). -/
def screen (r : Request) (s : State) : State :=
  match cachedReply r s with
  | some reply =>
    if s.replyQueue.length < Config.replyQueueSize then { s with replyQueue := s.replyQueue ++ [replayed reply] } else s
  | none =>
    if s.requestQueue.contains r then s
    else if s.requestQueue.length < Config.requestQueueSize then takeHead { s with requestQueue := s.requestQueue ++ [r] }
    else countDiscard s

/-! ### The frame of a command's effect -/

/-- R158, R162: while the handler may take, it takes its head and the arbiter selects again. Each take shortens the request queue, so a
bound of its length is never used up (log 18). -/
def takeWaiting : Nat → State → State
  | 0, s => s
  | n + 1, s => if canTake s then takeWaiting n (selectNext (takeHead s)) else s

/-- R33, R145, R158, R162: what follows every event: the arbiter selects if the transmitter is IDLE, ATTN takes its level, and the handler
takes what it may take, at once (log 3). -/
def settle (s : State) : State :=
  let t := selectNext s
  takeWaiting t.requestQueue.length t

/-- One event taken whole. While a hard reset is in progress nothing is sampled, received or counted (R152), so nothing happens. -/
def event (effect : State → State) (s : State) : Result :=
  if s.hardReset.isSome then .next s else .next (settle (effect (selectWaiting s)))

end Sys2Proof.Machine
end

