-- ==== Sys2Proof/Machine/Events.lean ====
section
/-! DEFINITION. The meanings of the events that are no frame of the host: the end of a frame on TXD, samples, points of time and the hard
reset. An event whose condition does not hold does not happen (log 1). -/

namespace Sys2Proof.Machine

open Sys2Proof

/-! ### The end of a frame on TXD (R32, R37, R162) -/

/-- R162: the last character of a reply: only the formed reply of an accepted RESET starts the pending reset, only that of an accepted
LINK_CFG changes the rate. -/
def replySent (r : Reply) (s : State) : State :=
  if r.formed && r.status == .ok then
    if r.code = 0x02 then
      match s.pendingReset with
      | some scope => takeReset scope s
      | none => s
    else if r.code = 0x03 then
      match r.rate with
      | some rate => changeRate rate s
      | none => s
    else s
  else s

/-- R32: the transmitter is IDLE and the end is handed to the owner of the frame. -/
def frameSent (s : State) : State :=
  match s.tx with
  | none => s
  | some sending =>
    let s' := { s with tx := none }
    match sending.frame with
    | .reply r => replySent r s'
    | .notice _ => s'
    | .report _ c _ _ => reportSent c s'

/-- FRAME_TRANSMIT_END (R32, R37, R162). -/
def execFrameTransmitEnd (s : State) : Result := event frameSent s

/-! ### Samples (R53 to R58) -/

/-- SAMPLE_INSTANT (R54), with the baseline or the edge the sample completes. -/
def execSampleInstant (channel : ChannelId) (level : Bool) (s : State) : Result := event (sample channel level) s

/-- R56: the sample due now, opposite to the filtered level, completes a run of a STABLE channel. -/
def edgeDue (i : ChannelId) (s : State) : Option Bool :=
  match (channelAt s i).sampler with
  | .stable filtered =>
    if sampleDue s.timebase (channelAt s i) && (completedRun s.timebase (!filtered) (channelAt s i)).isSome then some (!filtered)
    else none
  | _ => none

/-- EDGE_RECOGNIZED (R56, R57). -/
def execEdgeRecognized (channel : ChannelId) (s : State) : Result :=
  event (fun s => match edgeDue channel s with | some level => sample channel level s | none => s) s

/-- R55: the sample due now at `level` completes the first run of a SETTLING channel. -/
def baselineDue (i : ChannelId) (level : Bool) (s : State) : Bool :=
  (channelAt s i).sampler == .settling && sampleDue s.timebase (channelAt s i) &&
    (completedRun s.timebase level (channelAt s i)).isSome

/-- BASELINE (R55). -/
def execBaseline (channel : ChannelId) (level : Bool) (s : State) : Result :=
  event (fun s => if baselineDue channel level s then sample channel level s else s) s

/-! ### Points of time -/

/-- R77: the saturated mark is set when the timebase reaches the saturation point of a measurement in progress. -/
def saturate (i : ChannelId) (s : State) : State :=
  match (channelAt s i).measurement with
  | some m =>
    if m.saturationPoint = s.timebase then
      setChannel i { channelAt s i with measurement := some { m with saturated := true } } s
    else s
  | none => s

/-- SATURATION_POINT (R77). -/
def execSaturationPoint (channel : ChannelId) (s : State) : Result := event (saturate channel) s

/-- R91, steps 1 and 2: the timer after the expiry at `due`. -/
def expiredTimer (due : Time) (t : Timer) : Timer :=
  match t.mode with
  | .oneshot => { t with expiryCount := t.expiryCount + 1, due := none }
  | .periodic => { t with expiryCount := t.expiryCount + 1, due := some (due + t.period.setWidth 32) }

/-- R92: the content of an expiry of timer `t`, whose count after step 1 is `n`. -/
def expiryContent (t : TimerId) (due : Time) (n : Word16) : Content :=
  { kind := .expiry n, source := t.castLE (by decide), timestamp := due }

/-- R91, R92: the expiry of a RUNNING timer whose due time is reached, with its record and its firing pass. -/
def expire (t : TimerId) (s : State) : State :=
  let x := timerAt s t
  if x.due = some s.timebase then
    let ev := expiryContent t s.timebase (x.expiryCount + 1)
    let s' := setTimer t (expiredTimer s.timebase x) s
    firingPass ev (if x.report then offer x.cls ev s' else s')
  else s

/-- TIMER_EXPIRY (R91, R92). -/
def execTimerExpiry (timer : TimerId) (s : State) : Result := event (expire timer) s

/-- R124: the end of a pulse whose end time is reached. -/
def pulseEnds (l : LineId) (s : State) : State :=
  match (outputAt s l).pulse with
  | some p => if p.endTime = s.timebase then setOutput l (endPulse (outputAt s l)) s else s
  | none => s

/-- PULSE_END (R124). -/
def execPulseEnd (line : LineId) (s : State) : Result := event (pulseEnds line) s

/-- R42, R43: the retransmit timer of class `c` expires: RESEND with retries left, else the cause RETRY. -/
def retransmitExpires (c : Cls) (s : State) : State :=
  let x := classAt s c
  match x.frame with
  | some f =>
    if f.state = .waiting s.timebase then
      if x.retryCount < s.retryLimit.toNat then
        setClass c { x with retryCount := x.retryCount + 1, frame := some { f with state := .resend } } s
      else stallEntry (.stallRetry c) s
    else s
  | none => s

/-- RETRANSMIT_TIMER_EXPIRY (R42, R43). -/
def execRetransmitTimerExpiry (cls : Cls) (s : State) : Result := event (retransmitExpires cls) s

/-- R143: the silence timer reaches its due time. -/
def silenceExpires (s : State) : State :=
  if s.silenceDue = some s.timebase then stallEntry .stallSilence { s with silenceDue := none } else s

/-- SILENCE_EXPIRY (R143). -/
def execSilenceExpiry (s : State) : Result := event silenceExpires s

/-- BATCH_HOLD_REACHED (R29, R30): the class whose oldest unsent record has reached its age is tested anew; if it is ready, the arbiter
may select. -/
def execBatchHoldReached (cls : Cls) (s : State) : Result :=
  event (fun s => if ready cls s then arbitrate s else s) s

/-- R15: the aged mark of one record, when the timebase reaches its admission time plus 255,000 microseconds. -/
def ageRecord (number : Word16) (now : Time) (r : Record) : Record :=
  if r.number = number ∧ now = r.admittedAt + 255000#32 then { r with aged := true } else r

/-- R15: the mark reaches the record in the unsent list or in the frame in flight. -/
def ageClass (number : Word16) (now : Time) (c : ClassState) : ClassState :=
  { c with unsent := c.unsent.map (ageRecord number now),
           frame := c.frame.map (fun f => { f with records := f.records.map (ageRecord number now) }) }

/-- AGED_MARK (R15). -/
def execAgedMark (cls : Cls) (number : Word16) (s : State) : Result :=
  event (fun s => setClass cls (ageClass number s.timebase (classAt s cls)) s) s

/-! ### Hard reset (R152) -/

/-- R152: a hard reset in progress: outputs low, TXD idle, ATTN deasserted, the timebase at 0. -/
def heldInReset (cause : HardCause) (s : State) : State :=
  { hardDefaults s with hardReset := some cause, attn := false }

/-- POWER_ON_RESET (R152). -/
def execPowerOnReset (s : State) : Result := .next (heldInReset .power s)

/-- RESETN_LOW (R152): the cause stays POWER when the reset began at power-on. -/
def execResetnLow (s : State) : Result := .next (heldInReset (s.hardReset.getD .pin) s)

/-- R147, R152: the BOOT notice of a cause. -/
def bootNotice : HardCause → Notice
  | .power => .bootPower
  | .pin => .bootPin

/-- RESET_RELEASE (R152): every block holds its defaults and the BOOT notice is queued, and selected at once. Without a hard reset in
progress there is nothing to release. -/
def execResetRelease (s : State) : Result :=
  match s.hardReset with
  | some cause => .next (settle { hardDefaults s with notices := [bootNotice cause] })
  | none => .next s

end Sys2Proof.Machine
end

