-- ==== Sys2Proof/Machine/Receiver.lean ====
section
/-! DEFINITION. The receiver of the Serial Port (chapter 10): characters, frames, discards and rescans, and the commands that reach the
part on RXD: REQUEST_FRAME, ACK, ACK_WRONG_LENGTH, UNKNOWN_TYPE_FRAME, FRAME_DISCARD, GAP_EXPIRY and CHARACTER_RECEIVED. -/

namespace Sys2Proof.Machine

open Sys2Proof

/-- R175: a frame that has passed its CRC is handled by its type byte. -/
def handleFrame (body : List Byte) (s : State) : State :=
  match body with
  | type :: rest =>
    if type = 0x51 then
      match rest with
      | tag :: code :: params => screen { tag := tag, code := code, params := params } s
      | _ => countDiscard s
    else if type = 0x52 then
      match rest with
      | [session, cls, seq] => takeAck session cls seq s
      | _ => countDiscard s
    else countDiscard s
  | [] => countDiscard s

/-- R175: a sound frame restarts the silence timer and is then handled. -/
def soundFrame (body : List Byte) (s : State) : State := handleFrame body (restartSilence s)

/-- The receiver back in HUNT, with no candidate and no gap timer. -/
def toHunt (s : State) : State := { s with rx := .hunt, candidate := [], gapDue := none }

/-- R176, steps 1 and 2: a discard. -/
def discardFrame (s : State) : State := countDiscard (toHunt s)

/-- R174: the candidate takes a byte and the receiver goes on to `next`, with the gap timer due at `due`. -/
def keepByte (next : RxState) (due : Time) (b : Byte) (s : State) : State :=
  { s with rx := next, candidate := s.candidate ++ [b], gapDue := some due }

/-- The LEN of the frame being collected, its first byte after SYNC. -/
def candidateLen (s : State) : Nat :=
  match s.candidate with
  | len :: _ => len.toNat
  | [] => 0

/-- R175: LEN, body and the two CRC bytes have been taken; the second CRC byte is `b`. What follows an event follows the frame at once: of
several frames that a rescan completes, each is handled as if it were arriving then (R176). -/
def completeFrame (b : Byte) (s : State) : State × Option (List Byte) :=
  let bytes := s.candidate ++ [b]
  let covered := bytes.take (candidateLen s + 1)
  if bytes.drop (candidateLen s + 1) = bytes16 (crc covered) then (settle (soundFrame (covered.drop 1) (toHunt s)), none)
  else (discardFrame s, some bytes)

/-- R174, R176: one byte taken. The second part is the bytes to take again from HUNT, after a discard. -/
def takeByte (due : Time) (b : Byte) (s : State) : State × Option (List Byte) :=
  match s.rx with
  | .hunt => if b = syncByte then ({ s with rx := .length, candidate := [], gapDue := some due }, none) else (s, none)
  | .length =>
    if 3 ≤ b.toNat ∧ b.toNat ≤ 250 then (keepByte .body due b s, none) else (discardFrame s, some (s.candidate ++ [b]))
  | .body =>
    if s.candidate.length = candidateLen s then (keepByte .check due b s, none) else (keepByte .body due b s, none)
  | .check =>
    if s.candidate.length = candidateLen s + 1 then (keepByte .check due b s, none) else completeFrame b s

/-- Bytes taken in order up to the first discard, whose bytes then stand before those not yet taken (R176, step 3). -/
def takeBytes (due : Time) : List Byte → State → State × Option (List Byte)
  | [], s => (s, none)
  | b :: rest, s =>
    match takeByte due b s with
    | (s', none) => takeBytes due rest s'
    | (s', some again) => (s', some (again ++ rest))

/-- R176: bytes taken and rescanned until they run out. Every discard gives up one SYNC, so `fuel` above the number of bytes is never
used up (log 18). -/
def feed (due : Time) : Nat → List Byte → State → State
  | 0, _, s => s
  | fuel + 1, bytes, s =>
    match takeBytes due bytes s with
    | (s', none) => s'
    | (s', some again) => feed due fuel again s'

/-- R174, R177: a byte is taken now. -/
def receiveByte (b : Byte) (s : State) : State :=
  feed (s.timebase + gapLimit s.rate) (s.candidate.length + 2) [b] s

/-- R170, R172: so many bit times can have passed since the last rate change, at a bit time up to 2 % shorter than the nominal 1,000,000 us over
the bit rate, to the microsecond (log 22). -/
def bitsFit (bits : Nat) (s : State) : Bool :=
  match s.rateChange with
  | none => true
  | some change => 980000 * bits ≤ bitRate s.rate * ((s.timebase - change.time).toNat + 1)

/-- R172: `n` characters whose start bits were taken after the last rate change can have ended by now: from the middle of the first start
bit to the middle of the last stop bit there are 10 n − 1 bit times. -/
def charactersFit (n : Nat) (s : State) : Bool := bitsFit (10 * n - 1) s

/-- R172, R174: a character ends with a good stop bit. Its start bit shows that RXD has been at 1; one whose start bit was taken before a
rate change is dropped and counted as nothing. -/
def takeCharacter (b : Byte) (s : State) : State :=
  if charactersFit 1 s then receiveByte b { s with rxHeld := false } else s

/-- R176: a character with a framing error; in HUNT nothing is discarded. The gap timer of a candidate the rescan opens runs from the
last byte received, as the one that stops did. -/
def framingError (s : State) : State :=
  match s.rx with
  | .hunt => s
  | _ => feed (s.gapDue.getD s.timebase) (s.candidate.length + 1) s.candidate (discardFrame s)

/-- R169, R172, R176: a character ends with its stop bit at 0. The receiver then takes no start bit before RXD has returned to 1, so while it
waits for that a further framing error of the same break is none (log 11). -/
def takeFramingError (released : Bool) (s : State) : State :=
  if charactersFit 1 s && (released || !s.rxHeld) then framingError { s with rxHeld := true } else s

/-- R177: the whole candidate is dropped without rescan. -/
def gapExpires (s : State) : State := discardFrame s

/-- A frame with this body can be the one whose last character ends now: its LEN is in range, what the receiver has collected is its
beginning (log 12), and all of it can have been sent since the last rate change (R172). -/
def canComplete (body : List Byte) (s : State) : Bool :=
  3 ≤ body.length && body.length ≤ 250 && s.candidate.isPrefixOf (frameTail body) && charactersFit (body.length + 4) s

/-- R172, R178: a frame with this body whose last character ends now was open at the last rate change: its SYNC, 10 (LEN + 3) bit times back,
was taken before it, and the receiver has since been in HUNT. Not yet counted: the characters of a frame command are not given one by one,
so the change found no candidate (log 22). -/
def openAtChange (body : List Byte) (s : State) : Bool :=
  3 ≤ body.length && body.length ≤ 250 && s.rx == .hunt && !bitsFit (10 * (body.length + 3)) s &&
    (match s.rateChange with
     | some change => !change.frameCounted
     | none => false)

/-- R172, R178: the frame that was open at the rate change is counted, once. -/
def countAbandoned (s : State) : State :=
  countDiscard { s with rateChange := s.rateChange.map (fun change => { change with frameCounted := true }) }

/-- R175: the last character of a sound frame with this body ends; the receiver is in HUNT after it. A frame that a rate change has cut is
abandoned and counted (R178). -/
def deliver (body : List Byte) (s : State) : State :=
  if canComplete body s then soundFrame body (toHunt { s with rxHeld := false })
  else if openAtChange body s then countAbandoned s
  else s

/-- A request as the body of its frame (R180). -/
def requestBody (r : Request) : List Byte := 0x51 :: r.tag :: r.code :: r.params

/-! ### Meanings -/

/-- REQUEST_FRAME (R155, R175). -/
def execRequestFrame (tag code : Byte) (params : List Byte) (s : State) : Result :=
  event (deliver (requestBody { tag := tag, code := code, params := params })) s

/-- ACK (R38, R39, R175). -/
def execAck (session cls seq : Byte) (s : State) : Result := event (deliver [0x52, session, cls, seq]) s

/-- ACK_WRONG_LENGTH (R175): type ACK with a LEN other than 4; with LEN 4 the frame is no such frame and the event does not happen. -/
def execAckWrongLength (rest : List Byte) (s : State) : Result :=
  event (fun s => if rest.length = 3 then s else deliver (0x52 :: rest) s) s

/-- UNKNOWN_TYPE_FRAME (R175): a type other than REQUEST and ACK. -/
def execUnknownTypeFrame (type : Byte) (rest : List Byte) (s : State) : Result :=
  event (fun s => if type = 0x51 ∨ type = 0x52 then s else deliver (type :: rest) s) s

/-- R176: the byte just taken ends the frame being collected in a discard of the named cause. -/
def discardDue : FrameFault → State → Bool
  | .lenOutOfRange b, s => s.rx == .length && (b.toNat < 3 || 250 < b.toNat)
  | .crcFailure b, s =>
    s.rx == .check && s.candidate.length == candidateLen s + 2 &&
      (s.candidate ++ [b]).drop (candidateLen s + 1) != bytes16 (crc (s.candidate.take (candidateLen s + 1)))
  | .framingError _, _ => true

/-- FRAME_DISCARD (R176); a discard that is not due does not happen. A framing error in HUNT discards nothing, but the receiver waits for
RXD to return to 1 after it too (R169). -/
def execFrameDiscard (why : FrameFault) (s : State) : Result :=
  event (fun s =>
    if discardDue why s then
      match why with
      | .lenOutOfRange b => takeCharacter b s
      | .crcFailure b => takeCharacter b s
      | .framingError released => takeFramingError released s
    else s) s

/-- GAP_EXPIRY (R177): the gap timer reaches its due time while a frame is being collected. -/
def execGapExpiry (s : State) : Result :=
  event (fun s => if s.gapDue = some s.timebase then gapExpires s else s) s

/-- CHARACTER_RECEIVED (R174), with all that the byte brings about when it completes or ends a frame (R175, R176). -/
def execCharacterReceived (byte : Byte) (s : State) : Result := event (takeCharacter byte) s

end Sys2Proof.Machine
end

