-- ==== Sys2Proof/Machine/Requests.lean ====
section
/-! DEFINITION. The meanings of the requests of the host. Each row of the table is the taking of that request at the handler (R158): a
request that is not yet at the head of the request queue arrives as its frame does, and is taken at its arrival (R155, R175; log 2). -/

namespace Sys2Proof.Machine

open Sys2Proof

/-- The request stands at the head of the request queue. -/
def atHead (r : Request) (s : State) : Bool := s.requestQueue.head? == some r

/-- R155, R158: the request arrives, and is taken at its arrival when the handler may take it; one that already stands at the head is taken
when the handler may take it, and waits otherwise. -/
def request (r : Request) (s : State) : State := if atHead r s then takeHead s else deliver (requestBody r) s

/-- R182: an OUT_WRITE operation as six bytes. -/
def outOpBytes (b : OutOpBytes) : List Byte := [b.line, b.kind, b.level] ++ bytes24 b.duration

/-! ### The requests of the rows (R180, R182) -/

/-- The request a row of the table stands for, tag, code and parameters as R182 lays them out, one definition per request code. -/
def helloRequest (tag : Byte) : Request := { tag := tag, code := 0x01, params := [] }
def resetRequest (tag scope : Byte) : Request := { tag := tag, code := 0x02, params := [scope] }
def linkCfgRequest (tag rate timeout retryLimit silenceLimit : Byte) : Request :=
  { tag := tag, code := 0x03, params := [rate, timeout, retryLimit, silenceLimit] }
def linkReadRequest (tag clear : Byte) : Request := { tag := tag, code := 0x04, params := [clear] }
def quietRequest (tag wake : Byte) : Request := { tag := tag, code := 0x05, params := [wake] }
def resumeRequest (tag : Byte) : Request := { tag := tag, code := 0x06, params := [] }
def timeReadRequest (tag : Byte) : Request := { tag := tag, code := 0x07, params := [] }
def chanCfgRequest (tag channel mode select interval filterCount report cls : Byte) (threshold : Word16) : Request :=
  { tag := tag, code := 0x10, params := [channel, mode, select, interval, filterCount, report, cls] ++ bytes16 threshold }
def chanCtlRequest (tag : Byte) (mask : Word16) (op : Byte) : Request :=
  { tag := tag, code := 0x11, params := bytes16 mask ++ [op] }
def chanReadRequest (tag channel : Byte) : Request := { tag := tag, code := 0x12, params := [channel] }
def classCfgRequest (tag cls limit batchMin batchHold frameMax reserve : Byte) : Request :=
  { tag := tag, code := 0x18, params := [cls, limit, batchMin, batchHold, frameMax, reserve] }
def classReadRequest (tag cls : Byte) : Request := { tag := tag, code := 0x19, params := [cls] }
def flushRequest (tag cls : Byte) : Request := { tag := tag, code := 0x1A, params := [cls] }
def timerCfgRequest (tag timer mode : Byte) (period : Word24) (report cls : Byte) : Request :=
  { tag := tag, code := 0x20, params := [timer, mode] ++ bytes24 period ++ [report, cls] }
def timerCtlRequest (tag mask op : Byte) : Request := { tag := tag, code := 0x21, params := [mask, op] }
def timerReadRequest (tag timer : Byte) : Request := { tag := tag, code := 0x22, params := [timer] }
def reactLoadRequest (tag entry sourceKind sourceIndex qualifier : Byte) (width : Word24) (fireLimit doneClass reportDone : Byte)
    (actions : List ActionBytes) : Request :=
  { tag := tag, code := 0x28,
    params := [entry, sourceKind, sourceIndex, qualifier] ++ bytes24 width ++
      [fireLimit, doneClass, reportDone, byteOf actions.length] ++ (actions.map actionParamBytes).flatten }
def reactCtlRequest (tag : Byte) (mask : Word16) (op : Byte) : Request :=
  { tag := tag, code := 0x29, params := bytes16 mask ++ [op] }
def reactReadRequest (tag entry : Byte) : Request := { tag := tag, code := 0x2A, params := [entry] }
def outWriteRequest (tag : Byte) (ops : List OutOpBytes) : Request :=
  { tag := tag, code := 0x30, params := byteOf ops.length :: (ops.map outOpBytes).flatten }
def outCfgRequest (tag mask policy safeLevel : Byte) : Request :=
  { tag := tag, code := 0x31, params := [mask, policy, safeLevel] }
def outReadRequest (tag : Byte) : Request := { tag := tag, code := 0x32, params := [] }

/-! ### Requests of the link -/

/-- HELLO (R137, R138). -/
def execHello (tag : Byte) (s : State) : Result := event (request (helloRequest tag)) s

/-- RESET (R148). -/
def execReset (tag scope : Byte) (s : State) : Result := event (request (resetRequest tag scope)) s

/-- LINK_CFG (R49, R144, R172). -/
def execLinkCfg (tag rate timeout retryLimit silenceLimit : Byte) (s : State) : Result :=
  event (request (linkCfgRequest tag rate timeout retryLimit silenceLimit)) s

/-- LINK_READ (R153). -/
def execLinkRead (tag clear : Byte) (s : State) : Result := event (request (linkReadRequest tag clear)) s

/-- QUIET (R139). -/
def execQuiet (tag wake : Byte) (s : State) : Result := event (request (quietRequest tag wake)) s

/-- RESUME (R140). -/
def execResume (tag : Byte) (s : State) : Result := event (request (resumeRequest tag)) s

/-- TIME_READ (R71). -/
def execTimeRead (tag : Byte) (s : State) : Result := event (request (timeReadRequest tag)) s

/-! ### Requests of the channels -/

/-- CHAN_CFG (R62, R63). -/
def execChanCfg (tag channel mode select interval filterCount report cls : Byte) (threshold : Word16) (s : State) : Result :=
  event (request (chanCfgRequest tag channel mode select interval filterCount report cls threshold)) s

/-- CHAN_CTL, operation ENABLE (R59, R64). -/
def execChanCtlEnable (tag : Byte) (mask : Word16) (s : State) : Result :=
  event (request (chanCtlRequest tag mask 0)) s

/-- CHAN_CTL, operation DISABLE (R59, R64). -/
def execChanCtlDisable (tag : Byte) (mask : Word16) (s : State) : Result :=
  event (request (chanCtlRequest tag mask 1)) s

/-- CHAN_CTL, operation ARM (R60, R64). -/
def execChanCtlArm (tag : Byte) (mask : Word16) (s : State) : Result :=
  event (request (chanCtlRequest tag mask 2)) s

/-- CHAN_CTL, operation DISARM (R61, R64). -/
def execChanCtlDisarm (tag : Byte) (mask : Word16) (s : State) : Result :=
  event (request (chanCtlRequest tag mask 3)) s

/-- CHAN_CTL, operation CLEAR_SEEN (R64). -/
def execChanCtlClearSeen (tag : Byte) (mask : Word16) (s : State) : Result :=
  event (request (chanCtlRequest tag mask 4)) s

/-- CHAN_READ (R65). -/
def execChanRead (tag channel : Byte) (s : State) : Result :=
  event (request (chanReadRequest tag channel)) s

/-! ### Requests of the class queues -/

/-- CLASS_CFG (R20, R21). -/
def execClassCfg (tag cls limit batchMin batchHold frameMax reserve : Byte) (s : State) : Result :=
  event (request (classCfgRequest tag cls limit batchMin batchHold frameMax reserve)) s

/-- CLASS_READ (R22). -/
def execClassRead (tag cls : Byte) (s : State) : Result := event (request (classReadRequest tag cls)) s

/-- FLUSH (R23). -/
def execFlush (tag cls : Byte) (s : State) : Result := event (request (flushRequest tag cls)) s

/-! ### Requests of the interval timers -/

/-- TIMER_CFG (R95). -/
def execTimerCfg (tag timer mode : Byte) (period : Word24) (report cls : Byte) (s : State) : Result :=
  event (request (timerCfgRequest tag timer mode period report cls)) s

/-- TIMER_CTL, operation START (R89, R96). -/
def execTimerCtlStart (tag mask : Byte) (s : State) : Result :=
  event (request (timerCtlRequest tag mask 0)) s

/-- TIMER_CTL, operation STOP (R90, R96). -/
def execTimerCtlStop (tag mask : Byte) (s : State) : Result :=
  event (request (timerCtlRequest tag mask 1)) s

/-- TIMER_READ (R97). -/
def execTimerRead (tag timer : Byte) (s : State) : Result :=
  event (request (timerReadRequest tag timer)) s

/-! ### Requests of the reaction table -/

/-- REACT_LOAD (R117). -/
def execReactLoad (tag entry sourceKind sourceIndex qualifier : Byte) (width : Word24) (fireLimit doneClass reportDone : Byte)
    (actions : List ActionBytes) (s : State) : Result :=
  event (request (reactLoadRequest tag entry sourceKind sourceIndex qualifier width fireLimit doneClass reportDone actions)) s

/-- REACT_CTL, operation ARM (R118). -/
def execReactCtlArm (tag : Byte) (mask : Word16) (s : State) : Result :=
  event (request (reactCtlRequest tag mask 0)) s

/-- REACT_CTL, operation DISARM (R118). -/
def execReactCtlDisarm (tag : Byte) (mask : Word16) (s : State) : Result :=
  event (request (reactCtlRequest tag mask 1)) s

/-- REACT_CTL, operation CLEAR (R118). -/
def execReactCtlClear (tag : Byte) (mask : Word16) (s : State) : Result :=
  event (request (reactCtlRequest tag mask 2)) s

/-- REACT_READ (R119). -/
def execReactRead (tag entry : Byte) (s : State) : Result :=
  event (request (reactReadRequest tag entry)) s

/-! ### Requests of the output lines -/

/-- OUT_WRITE whose first operation is a SET (R122, R129). -/
def execOutWriteSet (tag line level : Byte) (duration : Word24) (rest : List OutOpBytes) (s : State) : Result :=
  event (request (outWriteRequest tag ({ line := line, kind := 0, level := level, duration := duration } :: rest))) s

/-- OUT_WRITE whose first operation is a TOGGLE (R122, R129). -/
def execOutWriteToggle (tag line level : Byte) (duration : Word24) (rest : List OutOpBytes) (s : State) : Result :=
  event (request (outWriteRequest tag ({ line := line, kind := 1, level := level, duration := duration } :: rest))) s

/-- OUT_WRITE whose first operation is a PULSE (R123, R129). -/
def execOutWritePulse (tag line level : Byte) (duration : Word24) (rest : List OutOpBytes) (s : State) : Result :=
  event (request (outWriteRequest tag ({ line := line, kind := 2, level := level, duration := duration } :: rest))) s

/-- OUT_CFG (R130). -/
def execOutCfg (tag mask policy safeLevel : Byte) (s : State) : Result :=
  event (request (outCfgRequest tag mask policy safeLevel)) s

/-- OUT_READ (R131). -/
def execOutRead (tag : Byte) (s : State) : Result := event (request (outReadRequest tag)) s

/-! ### A request of no known code -/

/-- UNKNOWN_CODE_REQUEST (R159): with a known code the request is no such request and the event does not happen. -/
def execUnknownCodeRequest (tag code : Byte) (params : List Byte) (s : State) : Result :=
  event (fun s => if requestCodes.contains code then s else request { tag := tag, code := code, params := params } s) s

/-- The request that is taken by a row of the table; none for the rows that are no request. -/
def requestOf : Instr → Option Request
  | .hello tag => some (helloRequest tag)
  | .reset tag scope => some (resetRequest tag scope)
  | .linkCfg tag rate timeout retryLimit silenceLimit => some (linkCfgRequest tag rate timeout retryLimit silenceLimit)
  | .linkRead tag clear => some (linkReadRequest tag clear)
  | .quiet tag wake => some (quietRequest tag wake)
  | .resume tag => some (resumeRequest tag)
  | .timeRead tag => some (timeReadRequest tag)
  | .chanCfg tag channel mode select interval filterCount report cls threshold =>
      some (chanCfgRequest tag channel mode select interval filterCount report cls threshold)
  | .chanCtlEnable tag mask => some (chanCtlRequest tag mask 0)
  | .chanCtlDisable tag mask => some (chanCtlRequest tag mask 1)
  | .chanCtlArm tag mask => some (chanCtlRequest tag mask 2)
  | .chanCtlDisarm tag mask => some (chanCtlRequest tag mask 3)
  | .chanCtlClearSeen tag mask => some (chanCtlRequest tag mask 4)
  | .chanRead tag channel => some (chanReadRequest tag channel)
  | .classCfg tag cls limit batchMin batchHold frameMax reserve =>
      some (classCfgRequest tag cls limit batchMin batchHold frameMax reserve)
  | .classRead tag cls => some (classReadRequest tag cls)
  | .flush tag cls => some (flushRequest tag cls)
  | .timerCfg tag timer mode period report cls => some (timerCfgRequest tag timer mode period report cls)
  | .timerCtlStart tag mask => some (timerCtlRequest tag mask 0)
  | .timerCtlStop tag mask => some (timerCtlRequest tag mask 1)
  | .timerRead tag timer => some (timerReadRequest tag timer)
  | .reactLoad tag entry sourceKind sourceIndex qualifier width fireLimit doneClass reportDone actions =>
      some (reactLoadRequest tag entry sourceKind sourceIndex qualifier width fireLimit doneClass reportDone actions)
  | .reactCtlArm tag mask => some (reactCtlRequest tag mask 0)
  | .reactCtlDisarm tag mask => some (reactCtlRequest tag mask 1)
  | .reactCtlClear tag mask => some (reactCtlRequest tag mask 2)
  | .reactRead tag entry => some (reactReadRequest tag entry)
  | .outWriteSet tag line level duration rest =>
      some (outWriteRequest tag ({ line := line, kind := 0, level := level, duration := duration } :: rest))
  | .outWriteToggle tag line level duration rest =>
      some (outWriteRequest tag ({ line := line, kind := 1, level := level, duration := duration } :: rest))
  | .outWritePulse tag line level duration rest =>
      some (outWriteRequest tag ({ line := line, kind := 2, level := level, duration := duration } :: rest))
  | .outCfg tag mask policy safeLevel => some (outCfgRequest tag mask policy safeLevel)
  | .outRead tag => some (outReadRequest tag)
  | .unknownCodeRequest tag code params =>
      if requestCodes.contains code then none else some { tag := tag, code := code, params := params }
  | .requestFrame _ _ _ => none
  | .ack _ _ _ => none
  | .ackWrongLength _ => none
  | .unknownTypeFrame _ _ => none
  | .frameDiscard _ => none
  | .gapExpiry => none
  | .frameTransmitEnd => none
  | .edgeRecognized _ => none
  | .baseline _ _ => none
  | .saturationPoint _ => none
  | .timerExpiry _ => none
  | .pulseEnd _ => none
  | .retransmitTimerExpiry _ => none
  | .silenceExpiry => none
  | .batchHoldReached _ => none
  | .agedMark _ _ => none
  | .powerOnReset => none
  | .resetnLow => none
  | .resetRelease => none
  | .sampleInstant _ _ => none
  | .characterReceived _ => none

end Sys2Proof.Machine
end

