-- ==== Sys2Proof/Machine/Dispatch.lean ====
section
/-! DEFINITION. The dispatch of a command to its meaning: one arm per constructor of Instr. -/

namespace Sys2Proof.Machine

open Sys2Proof

def exec (i : Instr) (s : State) : Host.Outcome State Fault Refusal :=
  match i with
  | .hello tag => Sys2Proof.Machine.execHello tag s
  | .reset tag scope => Sys2Proof.Machine.execReset tag scope s
  | .linkCfg tag rate timeout retryLimit silenceLimit => Sys2Proof.Machine.execLinkCfg tag rate timeout retryLimit silenceLimit s
  | .linkRead tag clear => Sys2Proof.Machine.execLinkRead tag clear s
  | .quiet tag wake => Sys2Proof.Machine.execQuiet tag wake s
  | .resume tag => Sys2Proof.Machine.execResume tag s
  | .timeRead tag => Sys2Proof.Machine.execTimeRead tag s
  | .chanCfg tag channel mode select interval filterCount report cls threshold => Sys2Proof.Machine.execChanCfg tag channel mode select interval filterCount report cls threshold s
  | .chanCtlEnable tag mask => Sys2Proof.Machine.execChanCtlEnable tag mask s
  | .chanCtlDisable tag mask => Sys2Proof.Machine.execChanCtlDisable tag mask s
  | .chanCtlArm tag mask => Sys2Proof.Machine.execChanCtlArm tag mask s
  | .chanCtlDisarm tag mask => Sys2Proof.Machine.execChanCtlDisarm tag mask s
  | .chanCtlClearSeen tag mask => Sys2Proof.Machine.execChanCtlClearSeen tag mask s
  | .chanRead tag channel => Sys2Proof.Machine.execChanRead tag channel s
  | .classCfg tag cls limit batchMin batchHold frameMax reserve => Sys2Proof.Machine.execClassCfg tag cls limit batchMin batchHold frameMax reserve s
  | .classRead tag cls => Sys2Proof.Machine.execClassRead tag cls s
  | .flush tag cls => Sys2Proof.Machine.execFlush tag cls s
  | .timerCfg tag timer mode period report cls => Sys2Proof.Machine.execTimerCfg tag timer mode period report cls s
  | .timerCtlStart tag mask => Sys2Proof.Machine.execTimerCtlStart tag mask s
  | .timerCtlStop tag mask => Sys2Proof.Machine.execTimerCtlStop tag mask s
  | .timerRead tag timer => Sys2Proof.Machine.execTimerRead tag timer s
  | .reactLoad tag entry sourceKind sourceIndex qualifier width fireLimit doneClass reportDone actions => Sys2Proof.Machine.execReactLoad tag entry sourceKind sourceIndex qualifier width fireLimit doneClass reportDone actions s
  | .reactCtlArm tag mask => Sys2Proof.Machine.execReactCtlArm tag mask s
  | .reactCtlDisarm tag mask => Sys2Proof.Machine.execReactCtlDisarm tag mask s
  | .reactCtlClear tag mask => Sys2Proof.Machine.execReactCtlClear tag mask s
  | .reactRead tag entry => Sys2Proof.Machine.execReactRead tag entry s
  | .outWriteSet tag line level duration rest => Sys2Proof.Machine.execOutWriteSet tag line level duration rest s
  | .outWriteToggle tag line level duration rest => Sys2Proof.Machine.execOutWriteToggle tag line level duration rest s
  | .outWritePulse tag line level duration rest => Sys2Proof.Machine.execOutWritePulse tag line level duration rest s
  | .outCfg tag mask policy safeLevel => Sys2Proof.Machine.execOutCfg tag mask policy safeLevel s
  | .outRead tag => Sys2Proof.Machine.execOutRead tag s
  | .unknownCodeRequest tag code params => Sys2Proof.Machine.execUnknownCodeRequest tag code params s
  | .requestFrame tag code params => Sys2Proof.Machine.execRequestFrame tag code params s
  | .ack session cls seq => Sys2Proof.Machine.execAck session cls seq s
  | .ackWrongLength rest => Sys2Proof.Machine.execAckWrongLength rest s
  | .unknownTypeFrame type rest => Sys2Proof.Machine.execUnknownTypeFrame type rest s
  | .frameDiscard why => Sys2Proof.Machine.execFrameDiscard why s
  | .gapExpiry => Sys2Proof.Machine.execGapExpiry s
  | .frameTransmitEnd => Sys2Proof.Machine.execFrameTransmitEnd s
  | .edgeRecognized channel => Sys2Proof.Machine.execEdgeRecognized channel s
  | .baseline channel level => Sys2Proof.Machine.execBaseline channel level s
  | .saturationPoint channel => Sys2Proof.Machine.execSaturationPoint channel s
  | .timerExpiry timer => Sys2Proof.Machine.execTimerExpiry timer s
  | .pulseEnd line => Sys2Proof.Machine.execPulseEnd line s
  | .retransmitTimerExpiry cls => Sys2Proof.Machine.execRetransmitTimerExpiry cls s
  | .silenceExpiry => Sys2Proof.Machine.execSilenceExpiry s
  | .batchHoldReached cls => Sys2Proof.Machine.execBatchHoldReached cls s
  | .agedMark cls number => Sys2Proof.Machine.execAgedMark cls number s
  | .powerOnReset => Sys2Proof.Machine.execPowerOnReset s
  | .resetnLow => Sys2Proof.Machine.execResetnLow s
  | .resetRelease => Sys2Proof.Machine.execResetRelease s
  | .sampleInstant channel level => Sys2Proof.Machine.execSampleInstant channel level s
  | .characterReceived byte => Sys2Proof.Machine.execCharacterReceived byte s

end Sys2Proof.Machine
end

