-- ==== Sys2Proof/Machine/Time.lean ====
section
/-! DEFINITION. What the block does when no command waits (log 4): the events due at the present timebase value, what the arbiter and the
handler have waiting, and else the passing of one microsecond (R69). -/

namespace Sys2Proof.Machine

open Sys2Proof

/-- All classes, C0 first. -/
def allClasses : List Cls := List.finRange 4

/-- R15: the records of a class whose aged mark is to be set now. -/
def agingNow (now : Time) (c : ClassState) : List Word16 :=
  ((inFlight c ++ c.unsent).filter (fun r => !r.aged && now == r.admittedAt + 255000#32)).map (·.number)

/-- The class's retransmit timer is due (R41). -/
def retransmitDueNow (now : Time) (c : ClassState) : Bool :=
  match c.frame with
  | some f => f.state == .waiting now
  | none => false

/-- The measurement's saturation point is reached and its mark is clear (R77). -/
def saturatesNow (now : Time) (c : Channel) : Bool :=
  match c.measurement with
  | some m => !m.saturated && m.saturationPoint == now
  | none => false

/-- The pulse's end time is reached (R124). -/
def pulseEndsNow (now : Time) (o : Output) : Bool :=
  match o.pulse with
  | some p => p.endTime == now
  | none => false

/-- The frame on TXD ends at the nominal rate (R34). -/
def transmitEndsNow (s : State) : Bool :=
  match s.tx with
  | some x => x.ends == s.timebase
  | none => false

/-- The events due at the present timebase value, in the order the model takes them when no command orders them (log 4). -/
def dueCommands (s : State) : List Instr :=
  (if s.gapDue == some s.timebase then [.gapExpiry] else []) ++
  (if transmitEndsNow s then [.frameTransmitEnd] else []) ++
  (allChannels.filter (fun i => sampleDue s.timebase (channelAt s i))).map (fun i => .sampleInstant i s.inputs[i]) ++
  (allChannels.filter (fun i => saturatesNow s.timebase (channelAt s i))).map .saturationPoint ++
  (allTimers.filter (fun t => (timerAt s t).due == some s.timebase)).map .timerExpiry ++
  (allLines.filter (fun l => pulseEndsNow s.timebase (outputAt s l))).map .pulseEnd ++
  (allClasses.map (fun c => (agingNow s.timebase (classAt s c)).map (.agedMark c))).flatten ++
  (allClasses.filter (fun c => retransmitDueNow s.timebase (classAt s c))).map .retransmitTimerExpiry ++
  (if s.silenceDue == some s.timebase then [.silenceExpiry] else [])

/-- The event the block takes next by itself, none while a hard reset is in progress (R152). -/
def dueCommand (s : State) : Option Instr := if s.hardReset.isSome then none else (dueCommands s).head?

/-- The Transmit Arbiter has something to select with the transmitter IDLE (R33). -/
def canSelect (s : State) : Bool :=
  s.tx.isNone && (!s.replyQueue.isEmpty || !s.notices.isEmpty || (offeringClass s).isSome)

/-- R69: one microsecond passes. The moment of a rate change is forgotten after 300,000 us, when the longest frame fits at the lowest rate
(log 22). -/
def tick (s : State) : State :=
  { s with timebase := s.timebase + 1
           rateChange := s.rateChange.filter (fun change => (s.timebase + 1 - change.time).toNat < 300000) }

/-- R33, R69, R158: with nothing due, the arbiter selects and the handler takes what waits, if anything does, else one microsecond passes.
While a hard reset is in progress the timebase is held at 0 (R86). -/
def idle (s : State) : State :=
  if s.hardReset.isSome then s
  else if canSelect s || canTake s then settle s
  else tick s

end Sys2Proof.Machine
end

