-- ==== Sys2Proof/Claims.lean ====
section
/-! DEFINITION. The terms the statements use: when the handler takes a request at once, what the arrival of its frame leaves, where its
reply goes, and what the statements call a known status of a request. -/

namespace Sys2Proof.Machine

open Sys2Proof

/-- R155, R158: request `r` is taken at once in `s`: it stands at the head of the request queue, or it can arrive now as the only request
and is no repeat; the reply queue has room and no reset is pending. -/
def Acceptable (r : Request) (s : State) : Prop :=
  s.hardReset = none ∧ s.pendingReset = none ∧ s.replyQueue.length < 4 ∧
    (s.requestQueue.head? = some r ∨
      (s.requestQueue = [] ∧ (∀ e ∈ s.replyCache, e.request ≠ r) ∧ canComplete (requestBody r) s = true))

/-- R143, R175: what a sound frame leaves at the receiver and the silence timer, whatever its type. Its characters show that RXD has been at 1
(log 11). -/
def heard (s : State) : State :=
  { s with rx := .hunt, candidate := [], gapDue := none, rxHeld := false,
           silenceDue := if s.silenceDue.isSome ∧ s.silenceLimit ≠ 0
             then some (s.timebase + BitVec.ofNat 32 (s.silenceLimit.toNat * 100000)) else none }

/-- The state in which request `r` is executed, but for its place in the queue: its frame has just arrived, unless it waited at the head. -/
def arrived (r : Request) (s : State) : State := if s.requestQueue.head? = some r then s else heard s

/-- The transmitter with a frame that begins now (R32, R34). -/
def beginning (f : TxFrame) (s : State) : Option Sending := some { frame := f, ends := s.timebase + frameTime s.rate f }

/-- R33, R161: `u` with the reply placed. With the transmitter BUSY the reply joins the queue. With it IDLE the first of what waited in `s`
goes out, reply before notice, and the new reply itself when nothing waited. -/
def placed (reply : Reply) (s u : State) : State :=
  match s.tx, s.replyQueue, s.notices with
  | some _, q, _ => { u with replyQueue := q ++ [reply] }
  | none, first :: q, _ => { u with replyQueue := q ++ [reply], tx := beginning (.reply first) s }
  | none, [], n :: rest => { u with replyQueue := [reply], notices := rest, tx := beginning (.notice n) s }
  | none, [], [] => { u with tx := beginning (.reply reply) s }

/-- R158, R161: what the taking of request `r` in `s` leaves when its execution leaves `u`: the request is out of its queue, its reply is in
the cache and placed, and ATTN stands at its level. -/
def replied (r : Request) (status : Status) (data : List Byte) (rate : Option RateCode) (s u : State) : State :=
  let reply : Reply := { tag := r.tag, code := r.code, status := status, data := data, formed := true, rate := rate }
  { placed reply s u with
      requestQueue := s.requestQueue.tail
      replyCache := cacheWith { request := r, reply := reply } u.replyCache
      attn := attnLevel u }

/-- R158: what the handler does after that: it takes what waits behind the request, as long as its three conditions hold. With nothing
behind it, nothing. -/
def goOn (t : State) : State := takeWaiting t.requestQueue.length t

/-- The outcome of a request that was taken and accepted: it leaves `u`, with reply OK and `data`. -/
def acceptedWith (r : Request) (data : List Byte) (s u : State) : Result := .next (goOn (replied r .ok data none s u))

/-- R160: the outcome of a request that was taken and refused: nothing changes but its own handling, and the reply carries no data. -/
def refusedWith (r : Request) (status : Status) (s : State) : Result :=
  .next (goOn (replied r status [] none s (arrived r s)))

/-- The replies that wait when a request is executed in `s`: with the transmitter IDLE the first of them has been selected (R33). -/
def waitingReplies (s : State) : List Reply := if s.tx.isNone then s.replyQueue.tail else s.replyQueue

/-- R159, checks 1 to 3: the status of a request that the generic checks refuse. -/
def genericRefusal (r : Request) (s : State) : Option Status :=
  if r.code ∉ requestCodes then some .unknown
  else if lengthFits r.code r.params = false then some .length
  else if s.link = .down ∧ r.code ≠ 0x01 ∧ r.code ≠ 0x02 then some .noSession
  else none

/-- R139 to R141, R17: a class with its in-flight frame back at the head of its unsent list and its retry count 0. -/
def withFrameReturned (c : ClassState) : ClassState :=
  { c with unsent := inFlight c ++ c.unsent, frame := none, retryCount := 0 }

/-- R141, R46, R127: the link stalled for `cause`. -/
def stalled (cause : Notice) (s : State) : State :=
  { s with link := .stalled, classes := s.classes.map withFrameReturned, silenceDue := none,
           notices := placeNotice cause s.notices,
           outputs := s.outputs.map (fun o =>
             if o.policy = .drive then { o with level := o.safeLevel, pulse := none, locked := true } else o) }

/-- R176: a discard: the receiver in HUNT, and the discard counter raised unless it stands at its largest value. -/
def discarded (s : State) : State :=
  { s with rx := .hunt, candidate := [], gapDue := none, discards := if s.discards = 0xFFFF#16 then s.discards else s.discards + 1 }

/-- R54: the run a sample at `level` makes of the run of a channel. -/
def runAfter (now : Time) (level : Bool) (c : Channel) : Run :=
  match c.run with
  | some r => if r.level = level then { level := level, length := r.length + 1, start := r.start } else ⟨level, 1, now⟩
  | none => ⟨level, 1, now⟩

/-- R182: what can be sent as an action in range: its kind, and the operands that kind uses. -/
abbrev ActionInRange (b : ActionBytes) : Prop :=
  (b.kind = 1 ∧ b.o1.toNat < 8 ∧ b.o2.toNat < 2) ∨ (b.kind = 2 ∧ b.o1.toNat < 8) ∨
    (b.kind = 3 ∧ b.o1.toNat < 8 ∧ b.o2.toNat < 2 ∧ join24 b.o3 b.o4 b.o5 ≠ 0) ∨
    ((b.kind = 4 ∨ b.kind = 5) ∧ b.o1.toNat < 4) ∨ (6 ≤ b.kind.toNat ∧ b.kind.toNat ≤ 9 ∧ b.o1.toNat < 16) ∨
    (b.kind = 10 ∧ b.o1.toNat < 4)

/-- R182: what can be sent as an OUT_WRITE operation in range. A TOGGLE may carry any level, a SET or TOGGLE any duration. -/
abbrev OutOpInRange (b : OutOpBytes) : Prop :=
  b.line.toNat < 8 ∧ (b.kind = 1 ∨ (b.level.toNat < 2 ∧ (b.kind = 0 ∨ (b.kind = 2 ∧ b.duration ≠ 0))))

/-- R105 to R110: what one action of entry `i` leaves of `u` in the pass of `ev`. -/
def acted (ev : Content) (i : EntryId) (u : State) (a : Action) : State :=
  match a with
  | .out op =>
    let o := outputAt u (opLine op)
    if o.locked then u
    else { u with outputs := u.outputs.set (opLine op) (match op with
      | .set _ v => { o with level := v, pulse := none }
      | .toggle _ => { o with level := !o.level, pulse := none }
      | .pulse _ v d => { o with
          level := v
          pulse := some { endTime := u.timebase + d.setWidth 32,
                          restore := match o.pulse with | some p => p.restore | none => o.level } }) }
  | .timerStart t =>
    { u with timers := u.timers.set t { timerAt u t with due := some (u.timebase + (timerAt u t).period.setWidth 32) } }
  | .timerStop t => { u with timers := u.timers.set t { timerAt u t with due := none } }
  | .chanArm k =>
    if (channelAt u k).sampler = .off then u
    else { u with channels := u.channels.set k { channelAt u k with armed := true, count := 0, measurement := none } }
  | .chanDisarm k =>
    if (channelAt u k).armed then { u with channels := u.channels.set k { channelAt u k with armed := false, measurement := none } }
    else u
  | .reactArm j =>
    match (entryAt u j).state with
    | .empty => u
    | .disarmed c => { u with entries := u.entries.set j { entryAt u j with state := .armed c, remaining := c.fireLimit } }
    | .armed c => { u with entries := u.entries.set j { entryAt u j with state := .armed c, remaining := c.fireLimit } }
  | .reactDisarm j =>
    match (entryAt u j).state with
    | .armed c => { u with entries := u.entries.set j { entryAt u j with state := .disarmed c } }
    | _ => u
  | .post k tag => offer k { kind := .post tag, source := i, timestamp := ev.timestamp } u

/-- R128: the outputs with every lock cleared and every level left as it stands. -/
def unlocked (s : State) : Vector Output 8 := s.outputs.map (fun o => { o with locked := false })

end Sys2Proof.Machine
end

