-- ==== Sys2Proof/Safety.lean ====
section
/-! DEFINITION. What counts as a safe state: the conditions the chapters say always hold, each written so that every step keeps it. -/

namespace Sys2Proof.Machine

open Sys2Proof

/-- The stored records of a class in the order of R13: the in-flight frame first, then the unsent list. -/
def storedRecords (c : ClassState) : List Record := inFlight c ++ c.unsent

/-- R1, R3, R4: at most 128 records are stored, C1 to C3 leave the reserve, and no class exceeds its limit. -/
def PoolSafe (s : State) : Prop :=
  storedCount s ≤ 128 ∧ lowerOccupancy s ≤ 128 - s.reserve.toNat ∧
    ∀ c : Cls, occupancy (classAt s c) ≤ (classAt s c).limit.toNat

/-- R13: the stored records of a class carry consecutive event numbers ending at next_number − 1, modulo 65536. -/
def ConsecutiveNumbers (c : ClassState) : Prop :=
  (storedRecords c).map (·.number) =
    (List.range (storedRecords c).length).map (fun i => c.nextNumber - BitVec.ofNat 16 ((storedRecords c).length - i))

/-- R13 in every class. -/
def NumberingSafe (s : State) : Prop := ∀ c : Cls, ConsecutiveNumbers (classAt s c)

/-- R28, R37, R44, R45: what holds of a frame in flight of class `c`. -/
def FrameSafe (s : State) (c : Cls) (f : InFlight) : Prop :=
  1 ≤ f.records.length ∧ f.records.length ≤ 8 ∧
    match f.state with
    | .sending => (s.link = .up ∨ ∃ w, s.link = .quiet w) ∧ ∃ session records ends, s.tx = some ⟨.report session c f.seq records, ends⟩
    | .waiting _ => s.link = .up
    | .held => ∃ w, s.link = .quiet w
    | .resend => s.link = .up ∨ ∃ w, s.link = .quiet w

/-- R2, R27, R28: frame_max is 1 to 8, a class without a frame has retry count 0, and every frame in flight is in a state its link allows. -/
def DeliverySafe (s : State) : Prop :=
  ∀ c : Cls, 1 ≤ (classAt s c).frameMax.toNat ∧ (classAt s c).frameMax.toNat ≤ 8 ∧
    match (classAt s c).frame with
    | none => (classAt s c).retryCount = 0
    | some f => FrameSafe s c f

/-- R127: exactly the DRIVE lines of a STALLED link are locked, and a locked line is at its safe level with no pulse. -/
def LocksSafe (s : State) : Prop :=
  ∀ l : LineId, ((outputAt s l).locked = true ↔ (s.link = .stalled ∧ (outputAt s l).policy = .drive)) ∧
    ((outputAt s l).locked = true → (outputAt s l).level = (outputAt s l).safeLevel ∧ (outputAt s l).pulse = none)

/-- R145: outside a hard reset ATTN is asserted exactly when the link is DOWN, or STALLED, or QUIET with an unsent record in a class at or
below the wake class; in a hard reset it is deasserted. -/
def AttnSafe (s : State) : Prop :=
  s.attn = true ↔ s.hardReset = none ∧
    (s.link = .down ∨ s.link = .stalled ∨ ∃ w c : Cls, s.link = .quiet (some w) ∧ c ≤ w ∧ (classAt s c).unsent ≠ [])

/-- R143: the silence timer runs exactly while the link is UP and the silence limit is above 0. -/
def SilenceSafe (s : State) : Prop := s.silenceDue.isSome = true ↔ (s.link = .up ∧ s.silenceLimit ≠ 0)

/-- R146, R154, R158: the queues and the cache keep their capacities, no two waiting requests are alike, tags are distinct in the cache and
kinds are distinct in the notice queue; and no request waits that the handler might take. -/
def HandlerSafe (s : State) : Prop :=
  s.requestQueue.length ≤ 4 ∧ s.requestQueue.Nodup ∧ s.replyQueue.length ≤ 4 ∧ s.replyCache.length ≤ 8 ∧
    (s.replyCache.map (fun e => e.request.tag)).Nodup ∧ s.notices.length ≤ 2 ∧
    s.notices.Pairwise (fun m n => sameKind m n = false) ∧
    (s.requestQueue ≠ [] → s.pendingReset = none → s.replyQueue.length = 4)

/-- R169, R174: what the receiver has collected agrees with its state, and the gap timer runs exactly while a frame is being collected. -/
def ReceiverSafe (s : State) : Prop :=
  match s.rx with
  | .hunt => s.candidate = [] ∧ s.gapDue = none
  | .length => s.candidate = [] ∧ s.gapDue.isSome = true
  | .body => s.gapDue.isSome = true ∧ 3 ≤ candidateLen s ∧ candidateLen s ≤ 250 ∧ 1 ≤ s.candidate.length ∧
      s.candidate.length ≤ candidateLen s
  | .check => s.gapDue.isSome = true ∧ 3 ≤ candidateLen s ∧ candidateLen s ≤ 250 ∧ candidateLen s + 1 ≤ s.candidate.length ∧
      s.candidate.length ≤ candidateLen s + 2

/-- R52, R59, R61, R72, R80: what holds of a channel. -/
def ChannelOk (c : Channel) : Prop :=
  (1 ≤ c.filterCount.toNat ∧ c.filterCount.toNat ≤ 15 ∧ c.threshold ≠ 0) ∧
    (c.sampler = .off → c.armed = false ∧ c.run = none ∧ c.lastSample = none) ∧
    (∀ r, c.run = some r → 1 ≤ r.length ∧ r.length < c.filterCount.toNat) ∧
    (∀ m, c.measurement = some m → c.armed = true ∧ ∃ p, c.mode = .width p) ∧
    (∀ e, c.mode = .count e → c.armed = true → c.count.toNat < c.threshold.toNat)

/-- Every channel keeps those conditions. -/
def ChannelsSafe (s : State) : Prop := ∀ i : ChannelId, ChannelOk (channelAt s i)

/-- R100, R101: what holds of a reaction entry. -/
def EntryOk (e : Entry) : Prop :=
  match e.state with
  | .empty => e.remaining = 0 ∧ e.fires = 0
  | .disarmed c => 1 ≤ c.actions.length ∧ c.actions.length ≤ 4 ∧ e.remaining.toNat ≤ c.fireLimit.toNat
  | .armed c => 1 ≤ c.actions.length ∧ c.actions.length ≤ 4 ∧ e.remaining.toNat ≤ c.fireLimit.toNat ∧
      (c.fireLimit ≠ 0 → e.remaining ≠ 0)

/-- Every entry keeps those conditions. -/
def EntriesSafe (s : State) : Prop := ∀ i : EntryId, EntryOk (entryAt s i)

/-- R53, R54: the samples of a run stand one interval apart on the instants of its channel, the last of them is the instant taken last, and no
later instant has been passed by. -/
def RunOnTime (now : Time) (c : Channel) : Prop :=
  ∀ r, c.run = some r →
    c.sampler ≠ .off ∧ 1 ≤ r.length ∧ r.length < c.filterCount.toNat ∧
      r.start.toNat % intervalMicros c.interval = 0 ∧
      ∃ last, c.instantTaken = some last ∧ last = r.start + BitVec.ofNat 32 ((r.length - 1) * intervalMicros c.interval) ∧
        (now - last).toNat ≤ intervalMicros c.interval

/-- R34, R53, R70, R88, R124, R177: no due time of a timer, end time of a pulse, due time of a retransmit timer, of the silence timer or of
the gap timer, saturation point of a measurement without its mark, or end of the frame on TXD has been passed; each lies ahead of the
timebase by no more than the longest wait of its kind, and by nothing at the microsecond where its event is still to be taken (log 24). Runs are on time, the moment of a rate change is not yet to be forgotten, and the
timebase is 0 in a hard reset. -/
def TimesAhead (s : State) : Prop :=
  (∀ t : TimerId, ∀ d, (timerAt s t).due = some d → (d - s.timebase).toNat ≤ (timerAt s t).period.toNat) ∧
    (∀ l : LineId, ∀ p, (outputAt s l).pulse = some p → (p.endTime - s.timebase).toNat ≤ 16777215) ∧
    (∀ c : Cls, ∀ f d, (classAt s c).frame = some f → f.state = .waiting d → (d - s.timebase).toNat ≤ 255000) ∧
    (∀ d, s.silenceDue = some d → (d - s.timebase).toNat ≤ 25500000) ∧
    (∀ d, s.gapDue = some d → (d - s.timebase).toNat ≤ 10417) ∧
    (∀ i : ChannelId, ∀ m, (channelAt s i).measurement = some m → m.saturated = false →
      (m.saturationPoint - s.timebase).toNat ≤ 16777215) ∧
    (∀ i : ChannelId, RunOnTime s.timebase (channelAt s i)) ∧
    (∀ x, s.tx = some x → (x.ends - s.timebase).toNat ≤ (frameTime s.rate x.frame).toNat) ∧
    (∀ change, s.rateChange = some change → (s.timebase - change.time).toNat < 300000) ∧
    (s.hardReset.isSome = true → s.timebase = 0)

end Sys2Proof.Machine
end

