-- ==== Sys2Proof/Certificates/Slice0/Obligations.lean ====
section
/-! DEFINITION. The statements for the provers. Machine and requests first, then frames and events, then the invariants. -/

open Sys2Proof Sys2Proof.Machine

/-! ### The step and reset -/

/-- A step takes the command at the front of the queue and is `exec` of it on the state with the queue's rest. -/
def Obligations.StepRunsTheFrontCommand : Prop :=
  ∀ (c : Instr) (rest : List Instr) (s : State), s.pending = c :: rest → step s = exec c { s with pending := rest }

/-- R69, logs 4 and 22: with no command waiting, an event that is due now is taken as its own command; with none due, what can be selected
or taken is; with nothing of these the timebase advances by one microsecond, and nothing else changes but that the moment of the last rate
change is forgotten after 300,000 us. What is due is said for each kind of event: what the rules have reached the present timebase value. -/
def Obligations.EmptyQueueTakesWhatIsDueElseCountsOneMicrosecond : Prop :=
  ∀ s : State, s.pending = [] → s.hardReset = none →
    (∀ c, (dueCommands s).head? = some c → step s = exec c s) ∧
    (dueCommands s = [] → canSelect s = true ∨ canTake s = true → step s = .next (settle s)) ∧
    (dueCommands s = [] → canSelect s = false → canTake s = false → step s = .next
      { s with
          timebase := s.timebase + 1
          rateChange := match s.rateChange with
            | some change => if (s.timebase + 1 - change.time).toNat < 300000 then some change else none
            | none => none }) ∧
    (.gapExpiry ∈ dueCommands s ↔ s.gapDue = some s.timebase) ∧
    (.frameTransmitEnd ∈ dueCommands s ↔ ∃ f, s.tx = some { frame := f, ends := s.timebase }) ∧
    (∀ (i : ChannelId) (level : Bool),
      .sampleInstant i level ∈ dueCommands s ↔ sampleDue s.timebase (channelAt s i) = true ∧ level = s.inputs[i]) ∧
    (∀ i : ChannelId, .saturationPoint i ∈ dueCommands s ↔
      ∃ m, (channelAt s i).measurement = some m ∧ m.saturated = false ∧ m.saturationPoint = s.timebase) ∧
    (∀ t : TimerId, .timerExpiry t ∈ dueCommands s ↔ (timerAt s t).due = some s.timebase) ∧
    (∀ l : LineId, .pulseEnd l ∈ dueCommands s ↔ ∃ p, (outputAt s l).pulse = some p ∧ p.endTime = s.timebase) ∧
    (∀ (c : Cls) (number : Word16), .agedMark c number ∈ dueCommands s ↔
      ∃ r ∈ inFlight (classAt s c) ++ (classAt s c).unsent, r.number = number ∧ r.aged = false ∧ s.timebase = r.admittedAt + 255000) ∧
    (∀ c : Cls, .retransmitTimerExpiry c ∈ dueCommands s ↔
      ∃ f, (classAt s c).frame = some f ∧ f.state = .waiting s.timebase) ∧
    (.silenceExpiry ∈ dueCommands s ↔ s.silenceDue = some s.timebase) ∧
    (canSelect s = true ↔ s.tx = none ∧ (s.replyQueue ≠ [] ∨ s.notices ≠ [] ∨ ∃ c : Cls, offersFrame c s = true))

/-- What the power-on reset leaves, where the spec gives the value: R24, R50, R67, R86, R98, R120, R132, R152, R166, R184. -/
def Obligations.ResetValues : Prop :=
  let s := State.reset
  (s.timebase = 0 ∧ s.link = .down ∧ s.session = 0 ∧ s.silenceDue = none ∧ s.silenceLimit = 0 ∧ s.pendingReset = none ∧
    s.notices = [.bootPower] ∧ s.attn = true ∧ s.rate = 4 ∧ s.retransmitTimeout = 20 ∧ s.retryLimit = 3 ∧ s.reserve = 4) ∧
  (∀ c : Cls, (classAt s c).unsent = [] ∧ (classAt s c).frame = none ∧ (classAt s c).nextNumber = 0 ∧ (classAt s c).lostPending = 0 ∧
    (classAt s c).limit = 32 ∧ (classAt s c).batchMin = 1 ∧ (classAt s c).frameMax = 8 ∧ (classAt s c).nextSeq = 0 ∧
    (classAt s c).retryCount = 0) ∧
  ((classAt s 0).batchHold = 0 ∧ (classAt s 1).batchHold = 5 ∧ (classAt s 2).batchHold = 20 ∧ (classAt s 3).batchHold = 100) ∧
  (∀ i : ChannelId, let c := channelAt s i
    c.sampler = .off ∧ c.run = none ∧ c.lastSample = none ∧ c.riseSeen = false ∧ c.fallSeen = false ∧ c.interval = 0 ∧
      c.filterCount = 4 ∧ c.mode = .edge .both ∧ c.report = true ∧ c.cls = 3 ∧ c.threshold = 1 ∧ c.armed = false ∧ c.count = 0 ∧
      c.measurement = none) ∧
  (∀ t : TimerId, timerAt s t = { due := none, mode := .oneshot, period := 1000, report := false, cls := 3, expiryCount := 0 }) ∧
  (∀ i : EntryId, entryAt s i = { state := .empty, remaining := 0, fires := 0 }) ∧
  (∀ l : LineId, outputAt s l = { level := false, pulse := none, policy := .hold, safeLevel := false, locked := false }) ∧
  (s.requestQueue = [] ∧ s.replyQueue = [] ∧ s.replyCache = [] ∧ s.tx = none ∧ s.rx = .hunt ∧ s.candidate = [] ∧ s.gapDue = none ∧
    s.discards = 0)

/-! ### Arrival, checks and replies of requests -/

/-- R155, R158: the screening of a request frame: replay, drop, join or discard, in this order; one that joins is taken at its arrival when
the handler may take it. The frame is one the receiver can complete (log 12), it restarts the silence timer, and a reply or notice that
waited with the transmitter IDLE is selected before it arrives (log 9). From HUNT, with no rate change kept, every frame with a LEN of 3 to
250 can complete. -/
def Obligations.RequestFrameIsScreened : Prop :=
  (∀ (body : List Byte) (s : State),
    canComplete body s = true ↔ 3 ≤ body.length ∧ body.length ≤ 250 ∧ s.candidate <+: frameTail body ∧
      charactersFit (body.length + 4) s = true) ∧
  (∀ (body : List Byte) (s : State), s.candidate = [] → s.rateChange = none → 3 ≤ body.length → body.length ≤ 250 →
    canComplete body s = true) ∧
  ∀ (tag code : Byte) (params : List Byte) (s : State), s.hardReset = none →
    let r : Request := { tag := tag, code := code, params := params }
    canComplete (requestBody r) s = true →
    let w := heard (selectWaiting s)
    exec (.requestFrame tag code params) s = .next (settle
      (match s.replyCache.find? (fun e => e.request = r) with
       | some e =>
         if w.replyQueue.length < 4 then
           { w with replyQueue := w.replyQueue ++ [{ e.reply with formed := false, rate := none }] }
         else w
       | none =>
         if r ∈ s.requestQueue then w
         else if s.requestQueue.length < 4 then takeHead { w with requestQueue := s.requestQueue ++ [r] }
         else { w with discards := if s.discards = 0xFFFF#16 then s.discards else s.discards + 1 }))

/-- R159, checks 1 to 3, with their order: any request of the table that fails one is answered with that status and changes nothing. A
request of unknown code is always answered UNKNOWN. -/
def Obligations.GenericChecksRefuse : Prop :=
  (∀ (i : Instr) (r : Request) (status : Status) (s : State), requestOf i = some r → Acceptable r s →
    genericRefusal r s = some status → exec i s = refusedWith r status s) ∧
  (∀ (tag code : Byte) (params : List Byte) (s : State), code ∉ requestCodes →
    Acceptable { tag := tag, code := code, params := params } s →
    exec (.unknownCodeRequest tag code params) s = refusedWith { tag := tag, code := code, params := params } .unknown s)

/-- R158, R160 to R162: every request taken is answered by one reply, and a refused one changes nothing and returns no data. After every event
the arbiter selects, ATTN is driven, and while the handler may take it takes the head of its queue and the arbiter selects again; a take is
the execution at the owner, with the reply placed in queue and cache; it happens only when the three conditions hold. In the cache the new
entry is the newest: an entry of the same tag is removed, else the oldest of eight. -/
def Obligations.EveryTakenRequestIsAnswered : Prop :=
  (∀ (i : Instr) (r : Request) (s : State), requestOf i = some r → Acceptable r s →
    ∃ status data rate u, exec i s = .next (goOn (replied r status data rate s u)) ∧
      (status ≠ .ok → u = arrived r s ∧ data = [] ∧ rate = none)) ∧
  (∀ s : State,
    let t := { arbitrate s with attn := attnLevel (arbitrate s) }
    (t.requestQueue ≠ [] → t.replyQueue.length < 4 → t.pendingReset = none → settle s = settle (takeHead t)) ∧
    (t.requestQueue = [] ∨ 4 ≤ t.replyQueue.length ∨ t.pendingReset ≠ none → settle s = t)) ∧
  (∀ (r : Request) (rest : List Request) (s : State), s.requestQueue = r :: rest →
    (s.replyQueue.length < 4 → s.pendingReset = none →
      let a := execute r { s with requestQueue := rest }
      let reply : Reply := { tag := r.tag, code := r.code, status := a.status, data := a.data, formed := true, rate := a.rate }
      takeHead s = { a.state with
        requestQueue := rest, replyQueue := s.replyQueue ++ [reply]
        replyCache := cacheWith { request := r, reply := reply } a.state.replyCache }) ∧
    (4 ≤ s.replyQueue.length ∨ s.pendingReset ≠ none → takeHead s = s)) ∧
  (∀ (e : CacheEntry) (cache : List CacheEntry), (∀ x ∈ cache, x.request.tag ≠ e.request.tag) →
    (cache.length < 8 → cacheWith e cache = cache ++ [e]) ∧
    (∀ oldest younger, cache = oldest :: younger → cache.length = 8 → cacheWith e cache = younger ++ [e])) ∧
  (∀ (e old : CacheEntry) (older younger : List CacheEntry), old.request.tag = e.request.tag →
    (∀ x ∈ older ++ younger, x.request.tag ≠ e.request.tag) → older.length + younger.length < 8 →
    cacheWith e (older ++ old :: younger) = older ++ younger ++ [e]) ∧
  (∀ t : State,
    (t.requestQueue ≠ [] → t.replyQueue.length < 4 → t.pendingReset = none → goOn t = settle (takeHead t)) ∧
    (t.requestQueue = [] ∨ 4 ≤ t.replyQueue.length ∨ t.pendingReset ≠ none → goOn t = t))

/-- R158, R164: while a reset is pending no request is taken: one that waits at the head stays there, one that arrives only joins the queue,
and the queue only grows. A request of the table that is not at the head arrives as its frame does, whether a reset is pending or not. What a
request row does when its request is not at the head, and when it may not be taken, is the model's reading of the table (log 2). -/
def Obligations.NoRequestIsTakenWhileResetPends : Prop :=
  ∀ (i : Instr) (r : Request) (s : State), requestOf i = some r → s.hardReset = none →
    (s.pendingReset ≠ none → s.requestQueue.head? = some r →
      exec i s = .next (settle (selectWaiting s)) ∧ (settle (selectWaiting s)).requestQueue = s.requestQueue) ∧
    (s.pendingReset ≠ none → canComplete (requestBody r) s = true → (∀ e ∈ s.replyCache, e.request ≠ r) → r ∉ s.requestQueue →
      s.requestQueue.length < 4 →
      exec i s = .next (settle { heard (selectWaiting s) with requestQueue := s.requestQueue ++ [r] })) ∧
    (s.requestQueue.head? ≠ some r → exec i s = exec (.requestFrame r.tag r.code r.params) s)

/-! ### Requests of the link -/

/-- R136 to R138, R47, R128, R163: HELLO in every link state. -/
def Obligations.HelloOpensASession : Prop :=
  ∀ (tag : Byte) (s : State), Acceptable (helloRequest tag) s →
    let session := if s.session = 255 then 1 else s.session + 1
    exec (.hello tag) s = acceptedWith (helloRequest tag) [session, 0x41, 16, 8, 4, 16, 4, 128] s
      { arrived (helloRequest tag) s with
          session := session, link := .up
          classes := s.classes.map (fun c => { withFrameReturned c with nextSeq := 0 })
          silenceDue := if s.silenceLimit = 0 then none else some (s.timebase + BitVec.ofNat 32 (s.silenceLimit.toNat * 100000))
          replyCache := [], outputs := unlocked s }

/-- R148: an accepted RESET changes nothing but the pending reset; a scope other than LINK, CAPTURE and ALL is refused RANGE. -/
def Obligations.ResetOnlySetsThePendingReset : Prop :=
  ∀ (tag scope : Byte) (s : State), Acceptable (resetRequest tag scope) s →
    let accepted := fun x => acceptedWith (resetRequest tag scope) [] s { arrived (resetRequest tag scope) s with pendingReset := some x }
    (scope = 0 → exec (.reset tag scope) s = accepted .link) ∧
    (scope = 1 → exec (.reset tag scope) s = accepted .capture) ∧
    (scope = 2 → exec (.reset tag scope) s = accepted .all) ∧
    (3 ≤ scope.toNat → exec (.reset tag scope) s = refusedWith (resetRequest tag scope) .range s)

/-- R49, R144, R172: LINK_CFG sets timeout, retry limit and silence limit at once, restarts or stops the silence timer of an UP link, and
holds the rate code with its reply; values out of range are refused RANGE. -/
def Obligations.LinkCfgSetsTheLink : Prop :=
  ∀ (tag rate timeout retryLimit silenceLimit : Byte) (s : State),
    let r := linkCfgRequest tag rate timeout retryLimit silenceLimit
    Acceptable r s → s.link ≠ .down →
    (∀ code : RateCode, rate = byteOf code.val → timeout ≠ 0 → retryLimit.toNat ≤ 15 →
      exec (.linkCfg tag rate timeout retryLimit silenceLimit) s = .next (goOn (replied r .ok [] (some code) s
        { arrived r s with
            retransmitTimeout := timeout, retryLimit := retryLimit, silenceLimit := silenceLimit
            silenceDue :=
              if s.link ≠ .up then (arrived r s).silenceDue
              else if silenceLimit = 0 then none
              else some (s.timebase + BitVec.ofNat 32 (silenceLimit.toNat * 100000)) }))) ∧
    (8 ≤ rate.toNat ∨ timeout = 0 ∨ 15 < retryLimit.toNat →
      exec (.linkCfg tag rate timeout retryLimit silenceLimit) s = refusedWith r .range s)

/-- R153, R183: LINK_READ returns the link values, clears the discard counter with clear 1, and refuses another clear value. The link state is
1 UP, 2 QUIET, 3 STALLED; the wake class is 0xFF outside QUIET and for NONE. -/
def Obligations.LinkReadReturnsTheLink : Prop :=
  (linkByte .up = 1 ∧ (∀ w, linkByte (.quiet w) = 2) ∧ linkByte .stalled = 3 ∧ (∀ c : Cls, wakeByte (.quiet (some c)) = byteOf c.val) ∧
    wakeByte (.quiet none) = 0xFF ∧ wakeByte .up = 0xFF ∧ wakeByte .stalled = 0xFF ∧ flagByte false = 0 ∧ flagByte true = 1) ∧
  ∀ (tag clear : Byte) (s : State), Acceptable (linkReadRequest tag clear) s → s.link ≠ .down →
    let r := linkReadRequest tag clear
    let data := [linkByte s.link, s.session, wakeByte s.link, flagByte s.attn, byteOf s.rate.val, s.retransmitTimeout, s.retryLimit,
      s.silenceLimit, byteOf s.requestQueue.tail.length, byteOf (waitingReplies s).length] ++ bytes16 s.discards
    (clear = 0 → exec (.linkRead tag clear) s = acceptedWith r data s (arrived r s)) ∧
    (clear = 1 → exec (.linkRead tag clear) s = acceptedWith r data s { arrived r s with discards := 0 }) ∧
    (2 ≤ clear.toNat → exec (.linkRead tag clear) s = refusedWith r .range s)

/-- R139, R45: QUIET from UP sets the wake class, holds every WAITING frame and stops the silence timer; it is refused RANGE for another
wake byte and STATE from QUIET and STALLED. -/
def Obligations.QuietHoldsDelivery : Prop :=
  ∀ (tag wake : Byte) (s : State), Acceptable (quietRequest tag wake) s → s.link ≠ .down →
    let r := quietRequest tag wake
    let quiet := fun w : Option Cls => acceptedWith r [] s
      { arrived r s with
          link := .quiet w, silenceDue := none
          classes := s.classes.map (fun c => { c with frame := c.frame.map (fun f =>
            match f.state with
            | .waiting _ => { f with state := .held }
            | _ => f) }) }
    (s.link = .up → (∀ c : Cls, wake = byteOf c.val → exec (.quiet tag wake) s = quiet (some c)) ∧
      (wake = 0xFF → exec (.quiet tag wake) s = quiet none)) ∧
    (4 ≤ wake.toNat → wake ≠ 0xFF → exec (.quiet tag wake) s = refusedWith r .range s) ∧
    (wake.toNat < 4 ∨ wake = 0xFF → s.link ≠ .up → exec (.quiet tag wake) s = refusedWith r .state s)

/-- R140, R45, R128: RESUME from QUIET restarts the held frames' timers, from STALLED it clears the locks; both start the silence timer.
From UP it is refused STATE. -/
def Obligations.ResumeReturnsToUp : Prop :=
  ∀ (tag : Byte) (s : State), Acceptable (resumeRequest tag) s →
    let r := resumeRequest tag
    let silence := if s.silenceLimit = 0 then none else some (s.timebase + BitVec.ofNat 32 (s.silenceLimit.toNat * 100000))
    (∀ w, s.link = .quiet w → exec (.resume tag) s = acceptedWith r [] s
      { arrived r s with
          link := .up, silenceDue := silence
          classes := s.classes.map (fun c => { c with frame := c.frame.map (fun f =>
            match f.state with
            | .held => { f with state := .waiting (s.timebase + BitVec.ofNat 32 (s.retransmitTimeout.toNat * 1000)) }
            | _ => f) }) }) ∧
    (s.link = .stalled → exec (.resume tag) s = acceptedWith r [] s
      { arrived r s with link := .up, silenceDue := silence, outputs := unlocked s }) ∧
    (s.link = .up → exec (.resume tag) s = refusedWith r .state s)

/-! ### Requests that read -/

/-- R71, R65, R22, R97, R131, R183: TIME_READ, CHAN_READ, CLASS_READ, TIMER_READ and OUT_READ return the present values and change
nothing; an index out of range is refused RANGE. The encodings come first: a value that is absent is 0xFF, an absent measurement 0 with
leading-edge time 0. That a timer read at its due time before the expiry, or a pulse at its end time before the pulse end, shows remaining 0
is the model's choice (log 24). -/
def Obligations.ReadsReturnPresentValues : Prop :=
  (samplerBytes .off = [0, 0xFF] ∧ samplerBytes .settling = [1, 0xFF] ∧ samplerBytes (.stable false) = [2, 0] ∧
    samplerBytes (.stable true) = [2, 1] ∧ [none, some false, some true].map flagOrAbsent = [0xFF, 0, 1] ∧
    [CaptureMode.edge .rise, .edge .fall, .edge .both, .width .high, .width .low, .count .rise, .count .fall, .count .both].map
        captureModeBytes = [[0, 0], [0, 1], [0, 2], [1, 0], [1, 1], [2, 0], [2, 1], [2, 2]] ∧
    measurementBytes none = [0, 0, 0, 0, 0] ∧
    (∀ m : Measurement, measurementBytes (some m) = (if m.saturated then 2 else 1) :: bytes32 m.lead) ∧
    timerModeByte .oneshot = 0 ∧ timerModeByte .periodic = 1 ∧ policyByte .hold = 0 ∧ policyByte .drive = 1) ∧
  ∀ (tag : Byte) (s : State), s.link ≠ .down →
    (Acceptable (timeReadRequest tag) s → exec (.timeRead tag) s = acceptedWith (timeReadRequest tag)
      (bytes32 s.timebase ++ [byteOf (classAt s 0).unsent.length, byteOf (classAt s 1).unsent.length,
        byteOf (classAt s 2).unsent.length, byteOf (classAt s 3).unsent.length, byteOf (128 - storedCount s)])
      s (arrived (timeReadRequest tag) s)) ∧
    (∀ b : Byte, Acceptable (chanReadRequest tag b) s →
      (∀ i : ChannelId, b = byteOf i.val → let c := channelAt s i
        exec (.chanRead tag b) s = acceptedWith (chanReadRequest tag b)
          (samplerBytes c.sampler ++ [flagOrAbsent c.lastSample, (if c.riseSeen then 1 else 0) + (if c.fallSeen then 2 else 0),
            flagByte c.armed] ++ captureModeBytes c.mode ++ [byteOf c.interval.val, c.filterCount, flagByte c.report, byteOf c.cls.val] ++
            bytes16 c.threshold ++ bytes16 c.count ++ measurementBytes c.measurement)
          s (arrived (chanReadRequest tag b) s)) ∧
      (16 ≤ b.toNat → exec (.chanRead tag b) s = refusedWith (chanReadRequest tag b) .range s)) ∧
    (∀ b : Byte, Acceptable (classReadRequest tag b) s →
      (∀ c : Cls, b = byteOf c.val → let x := classAt s c
        exec (.classRead tag b) s = acceptedWith (classReadRequest tag b)
          ([byteOf x.unsent.length, byteOf (inFlight x).length, (match x.frame with | some f => f.seq | none => 0), byteOf x.retryCount,
            x.limit, x.batchMin, x.batchHold, x.frameMax] ++ bytes16 x.lostPending ++ bytes16 x.nextNumber ++
            [x.nextSeq, byteOf (128 - storedCount s), s.reserve])
          s (arrived (classReadRequest tag b) s)) ∧
      (4 ≤ b.toNat → exec (.classRead tag b) s = refusedWith (classReadRequest tag b) .range s)) ∧
    (∀ b : Byte, Acceptable (timerReadRequest tag b) s →
      (∀ t : TimerId, b = byteOf t.val → let x := timerAt s t
        exec (.timerRead tag b) s = acceptedWith (timerReadRequest tag b)
          ([flagByte x.due.isSome, timerModeByte x.mode] ++ bytes24 x.period ++ [flagByte x.report, byteOf x.cls.val] ++
            bytes32 (x.due.getD 0) ++ bytes24 (match x.due with | some due => (due - s.timebase).setWidth 24 | none => 0) ++
            bytes16 x.expiryCount)
          s (arrived (timerReadRequest tag b) s)) ∧
      (4 ≤ b.toNat → exec (.timerRead tag b) s = refusedWith (timerReadRequest tag b) .range s)) ∧
    (Acceptable (outReadRequest tag) s → exec (.outRead tag) s = acceptedWith (outReadRequest tag)
      (([0, 1, 2, 3, 4, 5, 6, 7] : List LineId).map (fun l => let o := outputAt s l
        [flagByte o.level] ++ bytes24 (match o.pulse with | some p => (p.endTime - s.timebase).setWidth 24 | none => 0) ++
          [flagOrAbsent (o.pulse.map (·.restore)), policyByte o.policy, flagByte o.safeLevel, flagByte o.locked])).flatten
      s (arrived (outReadRequest tag) s))

/-! ### Requests of the channels -/

/-- R62, R63: CHAN_CFG sets the seven settings of a channel that is not armed; a changed interval or filter count returns a sampling
channel to SETTLING. An armed channel is refused ACTIVE, values out of range RANGE. -/
def Obligations.ChanCfgSetsTheChannel : Prop :=
  ∀ (tag channel mode select interval filterCount report cls : Byte) (threshold : Word16) (s : State),
    let r := chanCfgRequest tag channel mode select interval filterCount report cls threshold
    let c := Instr.chanCfg tag channel mode select interval filterCount report cls threshold
    Acceptable r s → s.link ≠ .down →
    (∀ (i : ChannelId) (m : CaptureMode) (iv : Fin 4) (rep : Bool) (k : Cls),
      channel = byteOf i.val → captureModeBytes m = [mode, select] → interval = byteOf iv.val → 1 ≤ filterCount.toNat →
      filterCount.toNat ≤ 15 → report = flagByte rep → cls = byteOf k.val → threshold ≠ 0 →
      let x := channelAt s i
      let restart : Bool := x.sampler != .off && (iv != x.interval || filterCount != x.filterCount)
      (x.armed = false → exec c s = acceptedWith r [] s
        { arrived r s with
            channels := s.channels.set i ({ x with
                mode := m, interval := iv, filterCount := filterCount, report := rep, cls := k, threshold := threshold
                sampler := if restart then .settling else x.sampler
                run := if restart then none else x.run
                instantTaken := if restart then some s.timebase else x.instantTaken } : Channel) }) ∧
      (x.armed = true → exec c s = refusedWith r .active s)) ∧
    (16 ≤ channel.toNat ∨ (∀ m, captureModeBytes m ≠ [mode, select]) ∨ 4 ≤ interval.toNat ∨ filterCount = 0 ∨ 15 < filterCount.toNat ∨
      2 ≤ report.toNat ∨ 4 ≤ cls.toNat ∨ threshold = 0 → exec c s = refusedWith r .range s)

/-- R59 to R61, R64: the five operations of CHAN_CTL over their mask. That ENABLE marks its own microsecond as an instant taken is the model's
choice (log 13). Another operation, which can be sent as its frame, is refused RANGE before the mask is looked at. -/
def Obligations.ChanCtlActsOnTheMask : Prop :=
  ∀ (tag : Byte) (mask : Word16) (s : State), s.link ≠ .down →
    let onMask := fun (r : Request) (f : Channel → Channel) => acceptedWith r [] s
      { arrived r s with channels := Vector.ofFn (fun i => if mask.getLsbD i.val then f (channelAt s i) else channelAt s i) }
    let off : Prop := ∃ i : ChannelId, mask.getLsbD i.val = true ∧ (channelAt s i).sampler = .off
    (Acceptable (chanCtlRequest tag mask 0) s → exec (.chanCtlEnable tag mask) s = onMask (chanCtlRequest tag mask 0) (fun c =>
      if c.sampler = .off then
        { c with sampler := .settling, run := none, lastSample := none, instantTaken := some s.timebase } else c)) ∧
    (Acceptable (chanCtlRequest tag mask 1) s → exec (.chanCtlDisable tag mask) s = onMask (chanCtlRequest tag mask 1) (fun c =>
      if c.sampler = .off then c
      else { c with sampler := .off, run := none, lastSample := none, armed := false, measurement := none })) ∧
    (Acceptable (chanCtlRequest tag mask 2) s → off →
      exec (.chanCtlArm tag mask) s = refusedWith (chanCtlRequest tag mask 2) .disabled s) ∧
    (Acceptable (chanCtlRequest tag mask 2) s → ¬ off →
      exec (.chanCtlArm tag mask) s = onMask (chanCtlRequest tag mask 2) (fun c =>
        { c with armed := true, count := 0, measurement := none })) ∧
    (Acceptable (chanCtlRequest tag mask 3) s → exec (.chanCtlDisarm tag mask) s = onMask (chanCtlRequest tag mask 3) (fun c =>
      if c.armed then { c with armed := false, measurement := none } else c)) ∧
    (Acceptable (chanCtlRequest tag mask 4) s → exec (.chanCtlClearSeen tag mask) s = onMask (chanCtlRequest tag mask 4) (fun c =>
      { c with riseSeen := false, fallSeen := false })) ∧
    (∀ op : Byte, 5 ≤ op.toNat → let r := chanCtlRequest tag mask op
      Acceptable r s → s.requestQueue = [] → exec (.requestFrame r.tag r.code r.params) s = refusedWith r .range s)

/-! ### Requests of the class queues -/

/-- R20, R21: CLASS_CFG sets the class and, for C0, the reserve; RANGE comes before OCCUPIED. -/
def Obligations.ClassCfgSetsTheClass : Prop :=
  ∀ (tag cls limit batchMin batchHold frameMax reserve : Byte) (s : State),
    let r := classCfgRequest tag cls limit batchMin batchHold frameMax reserve
    let i := Instr.classCfg tag cls limit batchMin batchHold frameMax reserve
    Acceptable r s → s.link ≠ .down →
    let inRange : Prop := 1 ≤ limit.toNat ∧ limit.toNat ≤ 128 ∧ 1 ≤ batchMin.toNat ∧ frameMax.toNat ≤ 8 ∧
      batchMin.toNat ≤ frameMax.toNat ∧ (cls = 0 → reserve.toNat ≤ 16)
    (∀ c : Cls, cls = byteOf c.val → inRange →
      let fits : Prop := occupancy (classAt s c) ≤ limit.toNat ∧
        (c = 0 → occupancy (classAt s 1) + occupancy (classAt s 2) + occupancy (classAt s 3) ≤ 128 - reserve.toNat)
      (fits → exec i s = acceptedWith r [] s
        { arrived r s with
            classes := s.classes.set c
              { classAt s c with limit := limit, batchMin := batchMin, batchHold := batchHold, frameMax := frameMax }
            reserve := if c = 0 then reserve else s.reserve }) ∧
      (¬ fits → exec i s = refusedWith r .occupied s)) ∧
    (4 ≤ cls.toNat ∨ ¬ inRange → exec i s = refusedWith r .range s)

/-- R23: FLUSH frees every record of the class and abandons its frame, clears lost_pending, and returns how many it freed and cleared;
next_number and next_seq are kept. -/
def Obligations.FlushEmptiesTheClass : Prop :=
  ∀ (tag cls : Byte) (s : State), Acceptable (flushRequest tag cls) s → s.link ≠ .down →
    let r := flushRequest tag cls
    (∀ c : Cls, cls = byteOf c.val → let x := classAt s c
      exec (.flush tag cls) s = acceptedWith r (byteOf (x.unsent.length + (inFlight x).length) :: bytes16 x.lostPending) s
        { arrived r s with classes := s.classes.set c { x with unsent := [], frame := none, retryCount := 0, lostPending := 0 } }) ∧
    (4 ≤ cls.toNat → exec (.flush tag cls) s = refusedWith r .range s)

/-! ### Requests of the interval timers -/

/-- R95: TIMER_CFG sets the four settings of an IDLE timer, refuses a RUNNING one ACTIVE and values out of range RANGE. -/
def Obligations.TimerCfgSetsAnIdleTimer : Prop :=
  ∀ (tag timer mode : Byte) (period : Word24) (report cls : Byte) (s : State),
    let r := timerCfgRequest tag timer mode period report cls
    let i := Instr.timerCfg tag timer mode period report cls
    Acceptable r s → s.link ≠ .down →
    (∀ (t : TimerId) (m : TimerMode) (rep : Bool) (k : Cls), timer = byteOf t.val → mode = timerModeByte m → period ≠ 0 →
      report = flagByte rep → cls = byteOf k.val →
      ((timerAt s t).due = none → exec i s = acceptedWith r [] s
        { arrived r s with timers := s.timers.set t { timerAt s t with mode := m, period := period, report := rep, cls := k } }) ∧
      ((timerAt s t).due ≠ none → exec i s = refusedWith r .active s)) ∧
    (4 ≤ timer.toNat ∨ 2 ≤ mode.toNat ∨ period = 0 ∨ 2 ≤ report.toNat ∨ 4 ≤ cls.toNat → exec i s = refusedWith r .range s)

/-- R89, R90, R96: TIMER_CTL starts, or stops, every timer of the mask at one value of now, and refuses a mask that names a timer greater
than 3, and another operation, which can be sent as its frame, RANGE. -/
def Obligations.TimerCtlStartsAndStops : Prop :=
  ∀ (tag mask : Byte) (s : State), s.link ≠ .down →
    let onMask := fun (r : Request) (f : Timer → Timer) => acceptedWith r [] s
      { arrived r s with timers := Vector.ofFn (fun t => if mask.getLsbD t.val then f (timerAt s t) else timerAt s t) }
    (Acceptable (timerCtlRequest tag mask 0) s →
      (mask.toNat < 16 → exec (.timerCtlStart tag mask) s = onMask (timerCtlRequest tag mask 0) (fun t =>
        { t with due := some (s.timebase + t.period.setWidth 32) })) ∧
      (16 ≤ mask.toNat → exec (.timerCtlStart tag mask) s = refusedWith (timerCtlRequest tag mask 0) .range s)) ∧
    (Acceptable (timerCtlRequest tag mask 1) s →
      (mask.toNat < 16 → exec (.timerCtlStop tag mask) s = onMask (timerCtlRequest tag mask 1) (fun t => { t with due := none })) ∧
      (16 ≤ mask.toNat → exec (.timerCtlStop tag mask) s = refusedWith (timerCtlRequest tag mask 1) .range s)) ∧
    (∀ op : Byte, 2 ≤ op.toNat → let r := timerCtlRequest tag mask op
      Acceptable r s → s.requestQueue = [] → exec (.requestFrame r.tag r.code r.params) s = refusedWith r .range s)

/-! ### Requests of the reaction table -/

/-- R117: REACT_LOAD writes an entry that is not ARMED whole, DISARMED with remaining 0 and fires 0; an ARMED one is refused ACTIVE,
contents or an entry out of range RANGE. Which bytes are in range, and what they mean, EntryLayoutReadsBack says. -/
def Obligations.ReactLoadWritesTheEntry : Prop :=
  ∀ (tag entry kind index qualifier : Byte) (width : Word24) (fireLimit doneClass reportDone : Byte) (actions : List ActionBytes)
    (s : State),
    let r := reactLoadRequest tag entry kind index qualifier width fireLimit doneClass reportDone actions
    let i := Instr.reactLoad tag entry kind index qualifier width fireLimit doneClass reportDone actions
    let contents := contentsOf kind index qualifier width fireLimit doneClass reportDone actions
    Acceptable r s → s.link ≠ .down → 1 ≤ actions.length → actions.length ≤ 4 →
    (∀ (j : EntryId) (c : EntryContents), entry = byteOf j.val → contents = some c →
      ((∀ x, (entryAt s j).state ≠ .armed x) → exec i s = acceptedWith r [] s
        { arrived r s with entries := s.entries.set j { state := .disarmed c, remaining := 0, fires := 0 } }) ∧
      (∀ x, (entryAt s j).state = .armed x → exec i s = refusedWith r .active s)) ∧
    (16 ≤ entry.toNat ∨ contents = none → exec i s = refusedWith r .range s)

/-- R101, R118: ARM, DISARM and CLEAR over their mask; ARM of a mask that names an EMPTY entry is refused DISABLED. Another operation, which
can be sent as its frame, is refused RANGE before the mask is looked at. -/
def Obligations.ReactCtlActsOnTheMask : Prop :=
  ∀ (tag : Byte) (mask : Word16) (s : State), s.link ≠ .down →
    let onMask := fun (r : Request) (f : Entry → Entry) => acceptedWith r [] s
      { arrived r s with entries := Vector.ofFn (fun i => if mask.getLsbD i.val then f (entryAt s i) else entryAt s i) }
    let empty : Prop := ∃ i : EntryId, mask.getLsbD i.val = true ∧ (entryAt s i).state = .empty
    (Acceptable (reactCtlRequest tag mask 0) s → empty →
      exec (.reactCtlArm tag mask) s = refusedWith (reactCtlRequest tag mask 0) .disabled s) ∧
    (Acceptable (reactCtlRequest tag mask 0) s → ¬ empty →
      exec (.reactCtlArm tag mask) s = onMask (reactCtlRequest tag mask 0) (fun e =>
        match e.state with
        | .empty => e
        | .disarmed c => { e with state := .armed c, remaining := c.fireLimit }
        | .armed c => { e with state := .armed c, remaining := c.fireLimit })) ∧
    (Acceptable (reactCtlRequest tag mask 1) s → exec (.reactCtlDisarm tag mask) s = onMask (reactCtlRequest tag mask 1) (fun e =>
        match e.state with
        | .armed c => { e with state := .disarmed c }
        | _ => e)) ∧
    (Acceptable (reactCtlRequest tag mask 2) s → exec (.reactCtlClear tag mask) s = onMask (reactCtlRequest tag mask 2) (fun _ =>
        { state := .empty, remaining := 0, fires := 0 })) ∧
    (∀ op : Byte, 3 ≤ op.toNat → let r := reactCtlRequest tag mask op
      Acceptable r s → s.requestQueue = [] → exec (.requestFrame r.tag r.code r.params) s = refusedWith r .range s)

/-- R119, R183: REACT_READ of an EMPTY entry returns state, fires and action count 0; of a loaded one its contents, with the six bytes of each
action as they were loaded. That "as loaded" takes in the bytes an action does not use is the model's reading (log 8). -/
def Obligations.ReactReadReturnsTheEntry : Prop :=
  ∀ (tag entry : Byte) (s : State), Acceptable (reactReadRequest tag entry) s → s.link ≠ .down →
    let r := reactReadRequest tag entry
    (∀ i : EntryId, entry = byteOf i.val →
      ((entryAt s i).state = .empty →
        exec (.reactRead tag entry) s = acceptedWith r ([0] ++ bytes16 (entryAt s i).fires ++ [0]) s (arrived r s)) ∧
      ∀ c, (entryAt s i).state = .disarmed c ∨ (entryAt s i).state = .armed c →
        exec (.reactRead tag entry) s = acceptedWith r
          ([if (entryAt s i).state = .disarmed c then 1 else 2] ++ bytes16 (entryAt s i).fires ++ [byteOf c.actions.length] ++
            sourceBytes c.source ++ [qualifierByte c.qualifier] ++ bytes24 c.width ++
            [c.fireLimit, (entryAt s i).remaining, byteOf c.doneClass.val, flagByte c.reportDone] ++
            (c.actions.map (fun l => actionUsedBytes l.action ++ l.unused)).flatten) s (arrived r s)) ∧
    (16 ≤ entry.toNat → exec (.reactRead tag entry) s = refusedWith r .range s)

/-! ### Requests of the output lines -/

/-- R122, R123, R129: OUT_WRITE, whatever the kind of its first operation, claims its lines in list order: a SET or TOGGLE cancels a
pulse, a PULSE starts or extends one. A value out of range is refused RANGE before a locked line is refused LOCKED. Which bytes are in range,
and what they mean, EntryLayoutReadsBack says. A first operation of another kind, which can be sent as its frame, is refused RANGE. -/
def Obligations.OutWriteClaimsTheLines : Prop :=
  ∀ (tag line level : Byte) (duration : Word24) (rest : List OutOpBytes) (s : State), s.link ≠ .down → rest.length ≤ 7 →
    let taken := fun (o : Vector Output 8) (op : OutOp) =>
      let x := o[opLine op]
      o.set (opLine op) (match op with
        | .set _ v => { x with level := v, pulse := none }
        | .toggle _ => { x with level := !x.level, pulse := none }
        | .pulse _ v d => { x with
            level := v
            pulse := some { endTime := s.timebase + d.setWidth 32,
                            restore := match x.pulse with | some p => p.restore | none => x.level } })
    let answersAs := fun (kind : Byte) (i : Instr) =>
      let first : OutOpBytes := { line := line, kind := kind, level := level, duration := duration }
      let r := outWriteRequest tag (first :: rest)
      Acceptable r s →
        (∀ ops : List OutOp, (first :: rest).map outOpOf = ops.map some →
          ((∀ op ∈ ops, (outputAt s (opLine op)).locked = false) → exec i s = acceptedWith r [] s
            { arrived r s with outputs := ops.foldl taken s.outputs }) ∧
          ((∃ op ∈ ops, (outputAt s (opLine op)).locked = true) → exec i s = refusedWith r .locked s)) ∧
        ((∃ b ∈ first :: rest, outOpOf b = none) → exec i s = refusedWith r .range s)
    answersAs 0 (.outWriteSet tag line level duration rest) ∧ answersAs 1 (.outWriteToggle tag line level duration rest) ∧
      answersAs 2 (.outWritePulse tag line level duration rest) ∧
      (∀ kind : Byte, 3 ≤ kind.toNat →
        let r := outWriteRequest tag ({ line := line, kind := kind, level := level, duration := duration } :: rest)
        Acceptable r s → s.requestQueue = [] → exec (.requestFrame r.tag r.code r.params) s = refusedWith r .range s)

/-- R130: OUT_CFG sets policy and safe level of the lines of its mask and nothing else of them; RANGE comes before STATE, which refuses it
in STALLED. -/
def Obligations.OutCfgSetsPolicyAndSafeLevel : Prop :=
  ∀ (tag mask policy safeLevel : Byte) (s : State), Acceptable (outCfgRequest tag mask policy safeLevel) s → s.link ≠ .down →
    let r := outCfgRequest tag mask policy safeLevel
    (∀ (p : Policy) (v : Bool), policy = policyByte p → safeLevel = flagByte v →
      (s.link ≠ .stalled → exec (.outCfg tag mask policy safeLevel) s = acceptedWith r [] s
        { arrived r s with outputs := Vector.ofFn (fun l =>
            if mask.getLsbD l.val then { outputAt s l with policy := p, safeLevel := v } else outputAt s l) }) ∧
      (s.link = .stalled → exec (.outCfg tag mask policy safeLevel) s = refusedWith r .state s)) ∧
    (2 ≤ policy.toNat ∨ 2 ≤ safeLevel.toNat → exec (.outCfg tag mask policy safeLevel) s = refusedWith r .range s)

/-! ### Parameters and their layout -/

/-- R159, R180, R182: the parameter length of every code, with the counted lists of REACT_LOAD and OUT_WRITE: the LENGTH check passes exactly
these; every request of a row carries the length its code requires; and the layout of every request: its code and its parameters in order. -/
def Obligations.WellFormedRequestsFitTheirLength : Prop :=
  (∀ (code : Byte) (params : List Byte), lengthFits code params = true ↔
    (code ∈ ([0x01, 0x06, 0x07, 0x32] : List Byte) ∧ params.length = 0) ∨
    (code ∈ ([0x02, 0x04, 0x05, 0x12, 0x19, 0x1A, 0x22, 0x2A] : List Byte) ∧ params.length = 1) ∨
    (code = 0x21 ∧ params.length = 2) ∨ (code ∈ ([0x11, 0x29, 0x31] : List Byte) ∧ params.length = 3) ∨
    (code = 0x03 ∧ params.length = 4) ∨ (code = 0x18 ∧ params.length = 6) ∨ (code = 0x20 ∧ params.length = 7) ∨
    (code = 0x10 ∧ params.length = 9) ∨
    (code = 0x28 ∧ ∃ count, params[10]? = some count ∧ 1 ≤ count.toNat ∧ count.toNat ≤ 4 ∧ params.length = 11 + 6 * count.toNat) ∨
    (code = 0x30 ∧ ∃ count, params[0]? = some count ∧ 1 ≤ count.toNat ∧ count.toNat ≤ 8 ∧ params.length = 1 + 6 * count.toNat)) ∧
  (∀ (i : Instr) (r : Request), i.wellFormed = true → requestOf i = some r →
    (r.code ∈ requestCodes → lengthFits r.code r.params = true) ∧ (requestBody r).length ≤ 250) ∧
  (∀ code : Byte, code ∈ requestCodes ↔ code ∈ ([0x01, 0x02, 0x03, 0x04, 0x05, 0x06, 0x07, 0x10, 0x11, 0x12, 0x18, 0x19, 0x1A, 0x20, 0x21,
    0x22, 0x28, 0x29, 0x2A, 0x30, 0x31, 0x32] : List Byte)) ∧
  (∀ r : Request, requestBody r = 0x51 :: r.tag :: r.code :: r.params) ∧
  (∀ (tag a b c d e f g h : Byte) (mask : Word16) (w : Word24) (actions : List ActionBytes) (rest : List OutOpBytes) (params : List Byte),
    let is := fun (i : Instr) (r : Request) (code : Byte) (params : List Byte) =>
      requestOf i = some r ∧ r = { tag := tag, code := code, params := params }
    let operations := fun kind : Byte => ({ line := a, kind := kind, level := b, duration := w } : OutOpBytes) :: rest
    let operationBytes := fun kind : Byte => byteOf (rest.length + 1) ::
      ((operations kind).map (fun o => [o.line, o.kind, o.level] ++ bytes24 o.duration)).flatten
    is (.hello tag) (helloRequest tag) 0x01 [] ∧ is (.reset tag a) (resetRequest tag a) 0x02 [a] ∧
    is (.linkCfg tag a b c d) (linkCfgRequest tag a b c d) 0x03 [a, b, c, d] ∧
    is (.linkRead tag a) (linkReadRequest tag a) 0x04 [a] ∧ is (.quiet tag a) (quietRequest tag a) 0x05 [a] ∧
    is (.resume tag) (resumeRequest tag) 0x06 [] ∧ is (.timeRead tag) (timeReadRequest tag) 0x07 [] ∧
    is (.chanCfg tag a b c d e f g mask) (chanCfgRequest tag a b c d e f g mask) 0x10 ([a, b, c, d, e, f, g] ++ bytes16 mask) ∧
    is (.chanCtlEnable tag mask) (chanCtlRequest tag mask 0) 0x11 (bytes16 mask ++ [0]) ∧
    is (.chanCtlDisable tag mask) (chanCtlRequest tag mask 1) 0x11 (bytes16 mask ++ [1]) ∧
    is (.chanCtlArm tag mask) (chanCtlRequest tag mask 2) 0x11 (bytes16 mask ++ [2]) ∧
    is (.chanCtlDisarm tag mask) (chanCtlRequest tag mask 3) 0x11 (bytes16 mask ++ [3]) ∧
    is (.chanCtlClearSeen tag mask) (chanCtlRequest tag mask 4) 0x11 (bytes16 mask ++ [4]) ∧
    is (.chanRead tag a) (chanReadRequest tag a) 0x12 [a] ∧
    is (.classCfg tag a b c d e f) (classCfgRequest tag a b c d e f) 0x18 [a, b, c, d, e, f] ∧
    is (.classRead tag a) (classReadRequest tag a) 0x19 [a] ∧ is (.flush tag a) (flushRequest tag a) 0x1A [a] ∧
    is (.timerCfg tag a b w c d) (timerCfgRequest tag a b w c d) 0x20 ([a, b] ++ bytes24 w ++ [c, d]) ∧
    is (.timerCtlStart tag a) (timerCtlRequest tag a 0) 0x21 [a, 0] ∧ is (.timerCtlStop tag a) (timerCtlRequest tag a 1) 0x21 [a, 1] ∧
    is (.timerRead tag a) (timerReadRequest tag a) 0x22 [a] ∧
    is (.reactLoad tag a b c d w e f g actions) (reactLoadRequest tag a b c d w e f g actions) 0x28
      ([a, b, c, d] ++ bytes24 w ++ [e, f, g, byteOf actions.length] ++
        (actions.map (fun x => [x.kind, x.o1, x.o2, x.o3, x.o4, x.o5])).flatten) ∧
    is (.reactCtlArm tag mask) (reactCtlRequest tag mask 0) 0x29 (bytes16 mask ++ [0]) ∧
    is (.reactCtlDisarm tag mask) (reactCtlRequest tag mask 1) 0x29 (bytes16 mask ++ [1]) ∧
    is (.reactCtlClear tag mask) (reactCtlRequest tag mask 2) 0x29 (bytes16 mask ++ [2]) ∧
    is (.reactRead tag a) (reactReadRequest tag a) 0x2A [a] ∧
    is (.outWriteSet tag a b w rest) (outWriteRequest tag (operations 0)) 0x30 (operationBytes 0) ∧
    is (.outWriteToggle tag a b w rest) (outWriteRequest tag (operations 1)) 0x30 (operationBytes 1) ∧
    is (.outWritePulse tag a b w rest) (outWriteRequest tag (operations 2)) 0x30 (operationBytes 2) ∧
    is (.outCfg tag a b c) (outCfgRequest tag a b c) 0x31 [a, b, c] ∧ is (.outRead tag) (outReadRequest tag) 0x32 [] ∧
    (h ∉ requestCodes → requestOf (.unknownCodeRequest tag h params) = some { tag := tag, code := h, params := params }))

/-- R104, R117, R129, R182, R183: an action, an entry and an OUT_WRITE operation are read back from their bytes; bytes that are not used
change nothing but what REACT_READ returns (log 8); an action or operation is refused exactly when its kind, or an operand it uses, is out
of range, and the contents of an entry exactly when one of their values is. The codes of the kinds, sources and qualifiers are given. -/
def Obligations.EntryLayoutReadsBack : Prop :=
  (∀ (a : Action) (k b1 b2 b3 b4 b5 : Byte), (∀ l v d, a = .out (.pulse l v d) → d ≠ 0) →
    actionUsedBytes a <+: [k, b1, b2, b3, b4, b5] →
    loadedActionOf { kind := k, o1 := b1, o2 := b2, o3 := b3, o4 := b4, o5 := b5 } =
      some { action := a, unused := [k, b1, b2, b3, b4, b5].drop (actionUsedBytes a).length }) ∧
  (∀ (b : ActionBytes) (l : LoadedAction), loadedActionOf b = some l →
    actionUsedBytes l.action ++ l.unused = [b.kind, b.o1, b.o2, b.o3, b.o4, b.o5]) ∧
  (∀ b : ActionBytes, loadedActionOf b = none ↔ ¬ ActionInRange b) ∧
  (∀ (l : LineId) (v : Bool) (level : Byte) (d : Word24),
    outOpOf { line := byteOf l.val, kind := 0, level := flagByte v, duration := d } = some (.set l v) ∧
    outOpOf { line := byteOf l.val, kind := 1, level := level, duration := d } = some (.toggle l) ∧
    (d ≠ 0 → outOpOf { line := byteOf l.val, kind := 2, level := flagByte v, duration := d } = some (.pulse l v d))) ∧
  (∀ b : OutOpBytes, outOpOf b = none ↔ ¬ OutOpInRange b) ∧
  (∀ (c : EntryContents) (kind index : Byte) (actions : List ActionBytes), sourceBytes c.source = [kind, index] →
    (∀ t, c.source = .timer t → c.qualifier = .any) → actions.map loadedActionOf = c.actions.map some →
    contentsOf kind index (qualifierByte c.qualifier) c.width c.fireLimit (byteOf c.doneClass.val) (flagByte c.reportDone) actions =
      some c) ∧
  (∀ (kind index qualifier : Byte) (width : Word24) (fireLimit doneClass reportDone : Byte) (actions : List ActionBytes),
    contentsOf kind index qualifier width fireLimit doneClass reportDone actions = none ↔
      2 ≤ kind.toNat ∨ (kind = 0 ∧ 16 ≤ index.toNat) ∨ (kind = 1 ∧ 4 ≤ index.toNat) ∨ 5 ≤ qualifier.toNat ∨
        (kind = 1 ∧ qualifier ≠ 0) ∨ 4 ≤ doneClass.toNat ∨ 2 ≤ reportDone.toNat ∨ ∃ b ∈ actions, ¬ ActionInRange b) ∧
  (∀ (l : LineId) (v : Bool) (d : Word24) (t : TimerId) (k : ChannelId) (j : EntryId) (c : Cls) (tag : Byte),
    actionUsedBytes (.out (.set l v)) = [1, byteOf l.val, flagByte v] ∧ actionUsedBytes (.out (.toggle l)) = [2, byteOf l.val] ∧
    actionUsedBytes (.out (.pulse l v d)) = [3, byteOf l.val, flagByte v] ++ bytes24 d ∧
    actionUsedBytes (.timerStart t) = [4, byteOf t.val] ∧ actionUsedBytes (.timerStop t) = [5, byteOf t.val] ∧
    actionUsedBytes (.chanArm k) = [6, byteOf k.val] ∧ actionUsedBytes (.chanDisarm k) = [7, byteOf k.val] ∧
    actionUsedBytes (.reactArm j) = [8, byteOf j.val] ∧ actionUsedBytes (.reactDisarm j) = [9, byteOf j.val] ∧
    actionUsedBytes (.post c tag) = [10, byteOf c.val, tag] ∧
    sourceBytes (.channel k) = [0, byteOf k.val] ∧ sourceBytes (.timer t) = [1, byteOf t.val] ∧
    opLine (.set l v) = l ∧ opLine (.toggle l) = l ∧ opLine (.pulse l v d) = l) ∧
  [Qualifier.any, .rise, .fall, .atLeast, .below].map qualifierByte = [0, 1, 2, 3, 4]

/-! ### Frames and characters on RXD -/

/-- R38, R39, R175: an ACK that names the frame in flight of its class, in this session and in UP or QUIET, frees it and clears the retry
count; any other ACK changes nothing. Both restart the silence timer. -/
def Obligations.AckFreesTheFrameItNames : Prop :=
  ∀ (session cls seq : Byte) (s : State), s.hardReset = none → canComplete [0x52, session, cls, seq] s = true →
    (∀ (c : Cls) (f : InFlight), cls = byteOf c.val → (s.link = .up ∨ ∃ w, s.link = .quiet w) → session = s.session →
      (classAt s c).frame = some f → f.seq = seq →
      exec (.ack session cls seq) s = .next (settle
        { heard s with classes := s.classes.set c { classAt s c with frame := none, retryCount := 0 } })) ∧
    ((s.link = .down ∨ s.link = .stalled ∨ session ≠ s.session ∨ 4 ≤ cls.toNat ∨
        ∃ c : Cls, cls = byteOf c.val ∧ ∀ f, (classAt s c).frame = some f → f.seq ≠ seq) →
      exec (.ack session cls seq) s = .next (settle (heard s)))

/-- R175, R179: an ACK of another length and a frame of another type are discarded and counted, and restart the silence timer. -/
def Obligations.SoundFramesOfNoUseAreCounted : Prop :=
  ∀ s : State, s.hardReset = none →
    let counted := Host.Outcome.next (settle
      { heard s with discards := if s.discards = 0xFFFF#16 then s.discards else s.discards + 1 })
    (∀ rest, rest.length ≠ 3 → canComplete (0x52 :: rest) s = true → exec (.ackWrongLength rest) s = counted) ∧
    (∀ type rest, type ≠ 0x51 → type ≠ 0x52 → canComplete (type :: rest) s = true → exec (.unknownTypeFrame type rest) s = counted)

/-- R169, R176, R177: a LEN out of range, a failed CRC and a framing error discard the frame being collected and rescan what was taken after
SYNC; the expiry of the gap timer discards without a rescan. Bytes that hold no SYNC leave the receiver in HUNT with one discard counted. A
framing error in HUNT discards nothing; after any framing error the receiver waits for RXD to return to 1, and until then a further one has
no effect (log 11). The rescan takes bytes from HUNT: what stands before a SYNC is dropped, the beginning of a frame after it is kept with the
gap timer set, a whole sound frame is handled with all that follows an event before the next byte, and a bad LEN or CRC is one more discard,
whose bytes are taken again. -/
def Obligations.DiscardsAreCountedAndRescanned : Prop :=
  ∀ s : State, s.hardReset = none →
    let w := discarded (selectWaiting s)
    (charactersFit 1 s = true →
      (∀ b : Byte, s.rx = .length → s.candidate = [] → b.toNat < 3 ∨ 250 < b.toNat →
        exec (.frameDiscard (.lenOutOfRange b)) s = .next (settle { w with rxHeld := false })) ∧
      (∀ b : Byte, s.rx = .check → s.candidate.length = candidateLen s + 2 →
        (s.candidate ++ [b]).drop (candidateLen s + 1) ≠ bytes16 (crc (s.candidate.take (candidateLen s + 1))) →
        exec (.frameDiscard (.crcFailure b)) s = .next (settle
          (feed (s.timebase + gapLimit s.rate) (s.candidate.length + 1) (s.candidate ++ [b]) { w with rxHeld := false })) ∧
        (syncByte ∉ s.candidate ++ [b] → exec (.frameDiscard (.crcFailure b)) s = .next (settle { w with rxHeld := false }))) ∧
      (∀ released : Bool, released = true ∨ s.rxHeld = false →
        (s.rx = .hunt → exec (.frameDiscard (.framingError released)) s = .next (settle { s with rxHeld := true })) ∧
        (s.rx ≠ .hunt →
          exec (.frameDiscard (.framingError released)) s = .next (settle
            (feed (s.gapDue.getD s.timebase) (s.candidate.length + 1) s.candidate { w with rxHeld := true })) ∧
          (syncByte ∉ s.candidate →
            exec (.frameDiscard (.framingError released)) s = .next (settle { w with rxHeld := true }))))) ∧
    (s.rxHeld = true → exec (.frameDiscard (.framingError false)) s = .next (settle s)) ∧
    (s.gapDue = some s.timebase → exec .gapExpiry s = .next (settle w)) ∧
    (∀ (due : Time) (n : Nat) (dropped : List Byte) (u : State), u.rx = .hunt → u.candidate = [] → u.gapDue = none →
      syncByte ∉ dropped →
      let rescan := fun (n : Nat) (bytes : List Byte) (u : State) => feed due n bytes u
      let opened := fun (rx : RxState) (candidate : List Byte) => { u with rx := rx, candidate := candidate, gapDue := some due }
      rescan (n + 1) dropped u = u ∧
      rescan (n + 1) (dropped ++ [syncByte]) u = opened .length [] ∧
      (∀ (len : Byte) (kept : List Byte), 3 ≤ len.toNat → len.toNat ≤ 250 →
        (kept.length < len.toNat → rescan (n + 1) (dropped ++ syncByte :: len :: kept) u = opened .body (len :: kept)) ∧
        (len.toNat ≤ kept.length → kept.length < len.toNat + 2 →
          rescan (n + 1) (dropped ++ syncByte :: len :: kept) u = opened .check (len :: kept))) ∧
      (∀ body rest : List Byte, 3 ≤ body.length → body.length ≤ 250 →
        rescan (n + 1) (dropped ++ syncByte :: frameTail body ++ rest) u = rescan (n + 1) rest (settle (soundFrame body u))) ∧
      (∀ (len : Byte) (rest : List Byte), len.toNat < 3 ∨ 250 < len.toNat →
        rescan (n + 1) (dropped ++ syncByte :: len :: rest) u = rescan n (len :: rest) (discarded u)) ∧
      (∀ (len c1 c0 : Byte) (body rest : List Byte), 3 ≤ len.toNat → len.toNat ≤ 250 → body.length = len.toNat →
        [c1, c0] ≠ bytes16 (crc (len :: body)) →
        rescan (n + 1) (dropped ++ syncByte :: len :: body ++ [c1, c0] ++ rest) u =
          rescan n (len :: body ++ [c1, c0] ++ rest) (discarded u)))

/-- R172, R174, R175, R178: what one character does in each receiver state. Every byte taken outside HUNT, and a SYNC in HUNT, sets the gap
timer to one gap limit from now. A character that ends sooner after a rate change than one could have begun after it is dropped, and so is
a framing error; a whole frame is then dropped too, and is counted once when its SYNC was taken before the change and the change found the
receiver in HUNT (log 22). With no rate change kept nothing is dropped for that. -/
def Obligations.CharacterMovesTheReceiver : Prop :=
  ∀ (b : Byte) (s : State), s.hardReset = none →
    let gap := some (s.timebase + gapLimit s.rate)
    let after := fun (rx : RxState) (candidate : List Byte) =>
      Host.Outcome.next (settle { s with rx := rx, candidate := candidate, gapDue := gap, rxHeld := false })
    (∀ n, charactersFit n s = true ↔ ∀ change, s.rateChange = some change →
      980000 * (10 * n - 1) ≤ bitRate s.rate * ((s.timebase - change.time).toNat + 1)) ∧
    (∀ len rest, s.candidate = len :: rest → candidateLen s = len.toNat) ∧
    (charactersFit 1 s = true →
      (s.rx = .hunt → b = 0xB4 → exec (.characterReceived b) s = after .length []) ∧
      (s.rx = .hunt → b ≠ 0xB4 → exec (.characterReceived b) s = .next (settle { s with rxHeld := false })) ∧
      (s.rx = .length → 3 ≤ b.toNat → b.toNat ≤ 250 → exec (.characterReceived b) s = after .body (s.candidate ++ [b])) ∧
      (s.rx = .length → b.toNat < 3 ∨ 250 < b.toNat → exec (.characterReceived b) s = exec (.frameDiscard (.lenOutOfRange b)) s) ∧
      (s.rx = .body → s.candidate.length ≠ candidateLen s → exec (.characterReceived b) s = after .body (s.candidate ++ [b])) ∧
      (s.rx = .body → s.candidate.length = candidateLen s → exec (.characterReceived b) s = after .check (s.candidate ++ [b])) ∧
      (s.rx = .check → s.candidate.length = candidateLen s + 1 → exec (.characterReceived b) s = after .check (s.candidate ++ [b])) ∧
      (s.rx = .check → s.candidate.length = candidateLen s + 2 →
        (s.candidate ++ [b]).drop (candidateLen s + 1) ≠ bytes16 (crc (s.candidate.take (candidateLen s + 1))) →
        exec (.characterReceived b) s = exec (.frameDiscard (.crcFailure b)) s) ∧
      (∀ body : List Byte, s.rx = .check → 3 ≤ body.length → body.length ≤ 250 → s.candidate ++ [b] = frameTail body →
        exec (.characterReceived b) s = .next (settle
          (soundFrame body { selectWaiting s with rx := .hunt, candidate := [], gapDue := none, rxHeld := false })))) ∧
    (∀ change, s.rateChange = some change →
      (let elapsed := (s.timebase - change.time).toNat
       (bitRate s.rate * (elapsed + 1) < 980000 * 9 →
        exec (.characterReceived b) s = .next (settle s) ∧
        ∀ released, exec (.frameDiscard (.framingError released)) s = .next (settle s)) ∧
       (∀ (tag code : Byte) (params : List Byte), params.length ≤ 247 →
        let late := fun bits : Nat => bitRate s.rate * (elapsed + 1) < 980000 * bits
        (late (10 * (params.length + 6)) → change.frameCounted = false → s.rx = .hunt →
          exec (.requestFrame tag code params) s = .next (settle
            { s with rateChange := some { change with frameCounted := true }
                     discards := if s.discards = 0xFFFF#16 then s.discards else s.discards + 1 })) ∧
        (late (10 * (params.length + 7) - 1) → ¬ late (10 * (params.length + 6)) ∨ change.frameCounted = true ∨ s.rx ≠ .hunt →
          exec (.requestFrame tag code params) s = .next (settle s)))))

/-- R171, R174, R175: a whole frame received character by character from HUNT, SYNC first, is handled exactly as the frame with its body,
with what follows every event. -/
def Obligations.FrameIsReceivedByItsCharacters : Prop :=
  ∀ (body : List Byte) (s : State), 3 ≤ body.length → body.length ≤ 250 → s.rx = .hunt → s.candidate = [] → s.gapDue = none →
    charactersFit 1 s = true →
    (syncByte :: frameTail body).foldl (fun s b => takeCharacter b s) s =
      settle (soundFrame body { s with rxHeld := false })

/-- R176, log 18: a rescan, after a byte or after a framing error, always runs out of bytes before the model's bound on it: a larger bound
changes nothing. -/
def Obligations.RescanRunsOut : Prop :=
  ∀ (due : Time) (k : Nat) (s : State), ReceiverSafe s →
    (∀ b : Byte, feed due (s.candidate.length + 2 + k) [b] s = feed due (s.candidate.length + 2) [b] s) ∧
    (s.rx ≠ .hunt → feed due (s.candidate.length + 1 + k) s.candidate (discarded s) =
      feed due (s.candidate.length + 1) s.candidate (discarded s))

/-! ### The end of a frame on TXD -/

/-- R32, R37, R162: at the last character the transmitter is IDLE. A report still SENDING is WAITING with its timer started in UP and HELD
in QUIET; the end of a notice, of a replayed or refused reply and of any reply but those of RESET and LINK_CFG does nothing more. What TXD has
then carried (R34, R171, R173, R180, R181): LEN + 4 characters, SYNC, LEN, the body and the CRC over LEN and the body; a REPLY, NOTICE or
REPORT laid out field by field, high byte first; a record of 8 to 13 bytes by its kind; a report of 1 to 8 records with a LEN of 13 to 109. -/
def Obligations.TransmitEndReturnsToTheOwner : Prop :=
  (∀ f : TxFrame,
    txWire f = [0xB4, byteOf (txBody f).length] ++ txBody f ++ bytes16 (crc (byteOf (txBody f).length :: txBody f)) ∧
    (txWire f).length = (txBody f).length + 4 ∧ txChars f = (txBody f).length + 4) ∧
  (crc [] = 0xFFFF ∧ ∀ (bytes : List Byte) (b : Byte), crc (bytes ++ [b]) =
    (List.range 8).foldl (fun v _ => if v.getLsbD 15 then (v <<< 1) ^^^ 0x1021 else v <<< 1) (crc bytes ^^^ (b.setWidth 16 <<< 8))) ∧
  (∀ r : Reply, txBody (.reply r) = [0x61, r.tag, r.code, statusByte r.status] ++ (if r.status = .ok then r.data else [])) ∧
  [Status.ok, .unknown, .length, .range, .noSession, .state, .active, .disabled, .occupied, .locked].map statusByte =
    [0, 1, 2, 3, 4, 5, 6, 7, 8, 9] ∧
  (∀ n, txBody (.notice n) = 0x63 :: (match n with
    | .bootPower => [1, 0, 0]
    | .bootPin => [1, 1, 0]
    | .bootRequest => [1, 2, 0]
    | .stallRetry c => [2, 0, byteOf c.val]
    | .stallSilence => [2, 1, 0])) ∧
  (∀ session c seq records, txBody (.report session c seq records) =
      [0x62, session, byteOf c.val, seq, byteOf records.length] ++ (records.map recordBytes).flatten ∧
    (1 ≤ records.length → records.length ≤ 8 →
      13 ≤ (txBody (.report session c seq records)).length ∧ (txBody (.report session c seq records)).length ≤ 109)) ∧
  (∀ r : Record,
    let l := if r.lostBefore = none then 0 else 1
    let bytes := fun (code e o : Nat) (extra : List Byte) =>
      [byteOf (16 * code + l + 2 * e + 4 * o), byteOf r.content.source.val] ++ bytes16 r.number ++ bytes32 r.content.timestamp ++
        extra ++ (match r.lostBefore with | some n => bytes16 n | none => [])
    recordBytes r = (match r.content.kind with
      | .edge .rise => bytes 1 1 0 []
      | .edge .fall => bytes 1 0 0 []
      | .width .high w isOver => bytes 2 1 (if isOver then 1 else 0) (bytes24 w)
      | .width .low w isOver => bytes 2 0 (if isOver then 1 else 0) (bytes24 w)
      | .count n => bytes 3 0 0 (bytes16 n)
      | .expiry n => bytes 4 0 0 (bytes16 n)
      | .done => bytes 5 0 0 []
      | .post tag => bytes 6 0 0 [tag]) ∧
    8 ≤ (recordBytes r).length ∧ (recordBytes r).length ≤ 13) ∧
  (∀ (n : Nat) (x : Word16) (y : Word24) (z : Time),
    (n < 256 → (byteOf n).toNat = n) ∧
    bytes16 x = [byteOf (x.toNat / 256), byteOf (x.toNat % 256)] ∧
    bytes24 y = [byteOf (y.toNat / 65536), byteOf (y.toNat / 256 % 256), byteOf (y.toNat % 256)] ∧
    bytes32 z = [byteOf (z.toNat / 16777216), byteOf (z.toNat / 65536 % 256), byteOf (z.toNat / 256 % 256), byteOf (z.toNat % 256)]) ∧
  ∀ (s : State) (x : Sending), s.hardReset = none → s.tx = some x →
    let idle := { s with tx := none }
    (∀ session c seq records, x.frame = .report session c seq records →
      (∀ f, (classAt s c).frame = some f → f.state = .sending → s.link = .up →
        exec .frameTransmitEnd s = .next (settle { idle with classes := s.classes.set c { classAt s c with
          frame := some { f with state := .waiting (s.timebase + BitVec.ofNat 32 (s.retransmitTimeout.toNat * 1000)) } } })) ∧
      (∀ f w, (classAt s c).frame = some f → f.state = .sending → s.link = .quiet w →
        exec .frameTransmitEnd s = .next (settle { idle with classes := s.classes.set c { classAt s c with
          frame := some { f with state := .held } } })) ∧
      ((classAt s c).frame = none → exec .frameTransmitEnd s = .next (settle idle))) ∧
    (∀ n, x.frame = .notice n → exec .frameTransmitEnd s = .next (settle idle)) ∧
    (∀ r, x.frame = .reply r → r.formed = false ∨ r.status ≠ .ok ∨ (r.code ≠ 0x02 ∧ r.code ≠ 0x03) →
      exec .frameTransmitEnd s = .next (settle idle))

/-- R148 to R151, R162, R172, R184: what the last character of a formed reply of an accepted request starts: that of RESET the pending reset in
its scope, that of LINK_CFG the rate held with it, a change of which discards the frame being collected outside HUNT. The model's choices in
it are that a change keeps its moment and whether it counted a frame, that scope ALL forgets the last change (log 22), and that scope ALL
keeps the field levels (log 10), the wait for RXD at 1 (log 11) and the commands that wait. -/
def Obligations.ResetAndRateTakeEffectAfterTheReply : Prop :=
  ∀ (s : State) (x : Sending) (r : Reply), s.hardReset = none → s.tx = some x → x.frame = .reply r → r.formed = true →
    r.status = .ok →
    (∀ rate : RateCode, r.code = 0x03 → r.rate = some rate →
      (rate = s.rate → exec .frameTransmitEnd s = .next (settle { s with tx := none })) ∧
      (rate ≠ s.rate → s.rx = .hunt →
        exec .frameTransmitEnd s = .next (settle
          { s with tx := none, rate := rate, rateChange := some { time := s.timebase, frameCounted := false } })) ∧
      (rate ≠ s.rate → s.rx ≠ .hunt →
        exec .frameTransmitEnd s = .next (settle
          { discarded s with tx := none, rate := rate, rateChange := some { time := s.timebase, frameCounted := true } }))) ∧
    (r.code = 0x02 →
    ((s.pendingReset = some .link → exec .frameTransmitEnd s = .next
      { s with
          tx := none, link := .down, silenceDue := none, requestQueue := [], replyQueue := [], replyCache := [], notices := []
          pendingReset := none, attn := true, outputs := unlocked s
          classes := s.classes.map (fun c => { withFrameReturned c with nextSeq := 0 }) }) ∧
    (s.pendingReset = some .capture → exec .frameTransmitEnd s = .next (settle
      { s with
          tx := none, pendingReset := none, reserve := 4
          classes := Vector.ofFn (fun c => { classAt State.reset c with nextSeq := (classAt s c).nextSeq })
          channels := State.reset.channels, timers := State.reset.timers, entries := State.reset.entries
          outputs := State.reset.outputs })) ∧
    (s.pendingReset = some .all → exec .frameTransmitEnd s = .next
      { State.reset with
          rate := s.rate, notices := [], inputs := s.inputs, rxHeld := s.rxHeld, pending := s.pending
          tx := some { frame := .notice .bootRequest, ends := frameTime s.rate (.notice .bootRequest) } })))

/-! ### Samples and edges -/

/-- R53 to R55: in SETTLING and STABLE a sample is taken at each multiple of the interval, 1, 4, 16 or 64 us; none is taken in OFF, between two
instants, or a second time at one instant. A sample at an instant lengthens, begins or empties the run; the sample that completes the first
run of a SETTLING channel is its baseline, which is no edge. That a sample at an instant is taken once, marked by the instant, and that it
leaves the level of the line in the state are the model's choices (logs 13 and 10). -/
def Obligations.SampleCountsTowardTheRun : Prop :=
  (∀ (now : Time) (c : Channel), sampleDue now c = true ↔
    c.sampler ≠ .off ∧ now.toNat % 4 ^ c.interval.val = 0 ∧ c.instantTaken ≠ some now) ∧
  (∀ (i : ChannelId) (level : Bool) (s : State), s.hardReset = none →
    let c := channelAt s i
    c.sampler = .off ∨ s.timebase.toNat % 4 ^ c.interval.val ≠ 0 ∨ c.instantTaken = some s.timebase →
      exec (.sampleInstant i level) s = .next (settle s) ∧ exec (.edgeRecognized i) s = .next (settle s) ∧
      exec (.baseline i level) s = .next (settle s)) ∧
  ∀ (i : ChannelId) (level : Bool) (s : State), s.hardReset = none → sampleDue s.timebase (channelAt s i) = true →
    let c := channelAt s i
    let run := runAfter s.timebase level c
    let after := fun x : Channel => Host.Outcome.next (settle
      { s with inputs := s.inputs.set i level,
               channels := s.channels.set i { x with lastSample := some level, instantTaken := some s.timebase } })
    (c.sampler = .settling → run.length < c.filterCount.toNat → exec (.sampleInstant i level) s = after { c with run := some run }) ∧
    (c.sampler = .stable level → exec (.sampleInstant i level) s = after { c with run := none }) ∧
    (c.sampler = .stable (!level) → run.length < c.filterCount.toNat →
      exec (.sampleInstant i level) s = after { c with run := some run }) ∧
    (c.sampler = .settling → c.filterCount.toNat ≤ run.length →
      exec (.baseline i level) s = after { c with sampler := .stable level, run := none } ∧
      exec (.sampleInstant i level) s = exec (.baseline i level) s)

/-- R56 to R58: the sample that completes a run in STABLE is an edge to the opposite level, stamped with the start of the run. Its seen flag
is set, and an armed channel hands the edge to its Capture Unit. The marked instant and the level of the line are the model's fields (logs
13 and 10). -/
def Obligations.EdgeIsRecognizedAndHandedOver : Prop :=
  ∀ (i : ChannelId) (filtered : Bool) (s : State), s.hardReset = none → (channelAt s i).sampler = .stable filtered →
    sampleDue s.timebase (channelAt s i) = true →
    let level := !filtered
    let c := channelAt s i
    let run := runAfter s.timebase level c
    c.filterCount.toNat ≤ run.length →
    let after := fun w : State =>
      { w with
          inputs := s.inputs.set i level
          channels := s.channels.set i ({ c with
                 sampler := .stable level, run := none, lastSample := some level, instantTaken := some s.timebase
                 riseSeen := c.riseSeen || level, fallSeen := c.fallSeen || filtered } : Channel) }
    (c.armed = false → exec (.edgeRecognized i) s = .next (settle (after s))) ∧
    (c.armed = true → exec (.edgeRecognized i) s =
      .next (settle (handEdge i (if level then .rise else .fall) run.start (after (selectWaiting s))))) ∧
    exec (.sampleInstant i level) s = exec (.edgeRecognized i) s

/-- R73, R82, R83: in EDGE mode an edge the select allows is a capture event, offered as a record when the channel reports and then handed
to the Reaction Engine; another edge has no effect. -/
def Obligations.EdgeModeCaptures : Prop :=
  ∀ (i : ChannelId) (d : Direction) (time : Time) (select : EdgeSelect) (s : State), (channelAt s i).mode = .edge select →
    let ev : Content := { kind := .edge d, source := i, timestamp := time }
    ((select = .both ∨ (select = .rise ∧ d = .rise) ∨ (select = .fall ∧ d = .fall)) →
      handEdge i d time s = firingPass ev (if (channelAt s i).report then offer (channelAt s i).cls ev s else s)) ∧
    ((select = .rise ∧ d = .fall) ∨ (select = .fall ∧ d = .rise) → handEdge i d time s = s)

/-- R74 to R77: in WIDTH mode the leading edge begins a measurement with its saturation point, the trailing edge ends it and is a capture
event with the width, OVER when the measurement is saturated or the width reaches the largest; a trailing edge with no measurement has no
effect; SATURATION_POINT sets the mark. -/
def Obligations.WidthModeMeasures : Prop :=
  ∀ (i : ChannelId) (p : Polarity) (time : Time) (s : State), (channelAt s i).mode = .width p →
    let c := channelAt s i
    let lead : Direction := match p with | .high => .rise | .low => .fall
    let trail : Direction := match p with | .high => .fall | .low => .rise
    let saturationPoint := time + BitVec.ofNat 32 (16777215 + (c.filterCount.toNat - 1) * 4 ^ c.interval.val)
    (c.measurement = none → handEdge i lead time s =
      { s with channels := s.channels.set i
                 { c with measurement := some { lead := time, saturated := false, saturationPoint := saturationPoint } } }) ∧
    (c.measurement = none → handEdge i trail time s = s) ∧
    (∀ m, c.measurement = some m →
      let width := if m.saturated then 16777215 else min (time - m.lead).toNat 16777215
      let ev : Content := { kind := .width p (BitVec.ofNat 24 width) (decide (width = 16777215)), source := i, timestamp := m.lead }
      let u := { s with channels := s.channels.set i { c with measurement := none } }
      handEdge i trail time s = firingPass ev (if c.report then offer c.cls ev u else u)) ∧
    (∀ m, s.hardReset = none → c.measurement = some m → m.saturationPoint = s.timebase →
      exec (.saturationPoint i) s = .next (settle
        { s with channels := s.channels.set i { c with measurement := some { m with saturated := true } } }))

/-- R80, R81: in COUNT mode an edge the select allows raises the count; at the threshold the count returns to 0 and a capture event carries
the threshold. -/
def Obligations.CountModeCounts : Prop :=
  ∀ (i : ChannelId) (d : Direction) (time : Time) (select : EdgeSelect) (s : State), (channelAt s i).mode = .count select →
    let c := channelAt s i
    let ev : Content := { kind := .count c.threshold, source := i, timestamp := time }
    let withCount := fun n : Word16 => { s with channels := s.channels.set i { c with count := n } }
    ((select = .rise ∧ d = .fall) ∨ (select = .fall ∧ d = .rise) → handEdge i d time s = s) ∧
    ((select = .both ∨ (select = .rise ∧ d = .rise) ∨ (select = .fall ∧ d = .fall)) →
      (c.count + 1 ≠ c.threshold → handEdge i d time s = withCount (c.count + 1)) ∧
      (c.count + 1 = c.threshold →
        handEdge i d time s = firingPass ev (if c.report then offer c.cls ev (withCount 0) else withCount 0)))

/-! ### Points of time -/

/-- R91, R92: a RUNNING timer at its due time counts the expiry, goes IDLE or reloads from the due time, offers its record when it reports,
and its event runs a firing pass. -/
def Obligations.TimerExpires : Prop :=
  ∀ (t : TimerId) (s : State), s.hardReset = none → (timerAt s t).due = some s.timebase →
    let x := timerAt s t
    let ev : Content := { kind := .expiry (x.expiryCount + 1), source := t.castLE (by decide), timestamp := s.timebase }
    let u := { selectWaiting s with timers := s.timers.set t { x with
      expiryCount := x.expiryCount + 1
      due := match x.mode with | .oneshot => none | .periodic => some (s.timebase + x.period.setWidth 32) } }
    exec (.timerExpiry t) s = .next (settle (firingPass ev (if x.report then offer x.cls ev u else u)))

/-- R124: at the end time of a pulse the line goes to the restore level and the pulse is gone; policy, safe level and lock are kept. No
firing pass runs and no record is offered. A pulse that is gone has no end. -/
def Obligations.PulseEndRestoresTheLine : Prop :=
  ∀ (l : LineId) (s : State), s.hardReset = none →
    (∀ p, (outputAt s l).pulse = some p → p.endTime = s.timebase →
      exec (.pulseEnd l) s = .next (settle
        { s with outputs := s.outputs.set l { outputAt s l with level := p.restore, pulse := none } })) ∧
    ((outputAt s l).pulse = none → exec (.pulseEnd l) s = .next (settle s))

/-- R42, R43, R141: a retransmit timer that expires with retries left raises the retry count and sets the frame to RESEND, seq and records
unchanged; with none left the link stalls with cause RETRY and the class. The STALL notice joins the tail of the notice queue, or replaces the
one of its kind in its place (R146). -/
def Obligations.RetransmitExpiryResendsOrStalls : Prop :=
  (∀ (c : Cls) (u : State),
    let stall := fun m : Notice => m = .stallSilence ∨ ∃ k, m = .stallRetry k
    ((∀ m ∈ u.notices, ¬ stall m) → (stalled (.stallRetry c) u).notices = u.notices ++ [.stallRetry c]) ∧
    (∀ before old after, u.notices = before ++ old :: after → stall old → (∀ m ∈ before ++ after, ¬ stall m) →
      (stalled (.stallRetry c) u).notices = before ++ .stallRetry c :: after)) ∧
  ∀ (c : Cls) (f : InFlight) (s : State), s.hardReset = none → s.link = .up → (classAt s c).frame = some f →
    f.state = .waiting s.timebase →
    ((classAt s c).retryCount < s.retryLimit.toNat → exec (.retransmitTimerExpiry c) s = .next (settle
      { selectWaiting s with classes := s.classes.set c { classAt s c with
          retryCount := (classAt s c).retryCount + 1, frame := some { f with state := .resend } } })) ∧
    (s.retryLimit.toNat ≤ (classAt s c).retryCount →
      exec (.retransmitTimerExpiry c) s = .next (settle (stalled (.stallRetry c) (selectWaiting s))))

/-- R141, R143: the silence timer that reaches its due time in UP stalls the link with cause SILENCE. R146: a notice whose kind, BOOT or
STALL, the queue does not hold joins its tail; else it replaces the one of its kind in its place, and the other stays as it is. -/
def Obligations.SilenceExpiryStalls : Prop :=
  (∀ n : Notice,
    let stall := fun m : Notice => m = .stallSilence ∨ ∃ k, m = .stallRetry k
    (∀ queue, (∀ m ∈ queue, ¬ (stall m ↔ stall n)) → placeNotice n queue = queue ++ [n]) ∧
    (∀ before old after, (stall old ↔ stall n) → (∀ m ∈ before ++ after, ¬ (stall m ↔ stall n)) →
      placeNotice n (before ++ old :: after) = before ++ n :: after)) ∧
  ∀ s : State, s.hardReset = none → s.link = .up → s.silenceDue = some s.timebase →
    exec .silenceExpiry s = .next (settle (stalled .stallSilence (selectWaiting s)))

/-- R16, R29, R35: a class with no frame is ready when its unsent count is at least batch_min, or its oldest unsent record has waited batch_hold
or is aged; with the transmitter IDLE, nothing else waiting and no lower-numbered class offering a frame, its report is built from the oldest
records and begins. Below batch_min, with the oldest record younger than batch_hold and not aged, no report begins. The lower-numbered class
goes first whichever became ready first (log 23). -/
def Obligations.BatchHoldBuildsAReport : Prop :=
  ∀ (c : Cls) (oldest : Record) (younger : List Record) (s : State), s.hardReset = none → s.tx = none → s.replyQueue = [] →
    s.notices = [] → s.link = .up → (classAt s c).frame = none → (classAt s c).unsent = oldest :: younger → canTake s = false →
    let x := classAt s c
    let k := min x.unsent.length x.frameMax.toNat
    let due : Prop := x.batchMin.toNat ≤ younger.length + 1 ∨ oldest.aged = true ∨
      x.batchHold.toNat * 1000 ≤ (s.timebase - oldest.admittedAt).toNat
    (due → (∀ c' : Cls, c' < c → offersFrame c' s = false) → exec (.batchHoldReached c) s = .next
      { s with
          attn := false
          classes := s.classes.set c { x with
            unsent := x.unsent.drop k, nextSeq := x.nextSeq + 1, retryCount := 0
            frame := some { seq := x.nextSeq, records := x.unsent.take k, state := .sending } }
          tx := beginning (.report s.session c x.nextSeq (x.unsent.take k)) s }) ∧
    (¬ due → (∀ c' : Cls, c' ≠ c → offersFrame c' s = false) → exec (.batchHoldReached c) s = .next { s with attn := false })

/-- R15: when the timebase reaches a record's admission time plus 255,000 us its aged mark is set, in the unsent list or in the frame in
flight, and nothing else of the class changes. -/
def Obligations.AgedMarkIsSet : Prop :=
  ∀ (c : Cls) (number : Word16) (s : State), s.hardReset = none →
    let age := fun r : Record => if r.number = number ∧ s.timebase = r.admittedAt + 255000 then { r with aged := true } else r
    exec (.agedMark c number) s = .next (settle
      { selectWaiting s with classes := s.classes.set c { classAt s c with
          unsent := (classAt s c).unsent.map age
          frame := (classAt s c).frame.map (fun f => { f with records := f.records.map age }) } })

/-! ### Hard reset -/

/-- R152: power-on and RESETn low put every block at its defaults with the outputs low, ATTN deasserted and the timebase at 0; while it
lasts no other command has an effect; its release queues BOOT with its cause, which is sent at once, and asserts ATTN. The model's choices in
it are that the field levels and the waiting commands are kept (logs 10 and 14), and that the receiver no longer waits for RXD at 1 (log 11)
and forgets a rate change (log 22). -/
def Obligations.HardResetHoldsAndReleases : Prop :=
  ∀ s : State,
    let defaults := { State.reset with notices := [], inputs := s.inputs, pending := s.pending }
    exec .powerOnReset s = .next { defaults with hardReset := some .power, attn := false } ∧
    exec .resetnLow s = .next { defaults with hardReset := some (s.hardReset.getD .pin), attn := false } ∧
    (∀ (c : Instr) (cause : HardCause), s.hardReset = some cause → c ≠ .powerOnReset → c ≠ .resetnLow → c ≠ .resetRelease →
      exec c s = .next s) ∧
    (∀ cause, s.hardReset = some cause →
      let boot : Notice := match cause with | .power => .bootPower | .pin => .bootPin
      exec .resetRelease s = .next
        { defaults with tx := some { frame := .notice boot, ends := frameTime 4 (.notice boot) }, attn := true })

/-! ### Offers, the arbiter and the firing pass -/

/-- R1, R2, R10 to R12: an offer below the limit, with a free slot for C0 and more than the reserve for C1 to C3, is stored with the next event
number and the losses before it; any other offer is only counted. The occupancy of a class is its unsent records and those in flight. -/
def Obligations.OffersAreAdmittedOrCounted : Prop :=
  (∀ x : ClassState, inFlight x = (x.frame.map (·.records)).getD [] ∧ occupancy x = x.unsent.length + (inFlight x).length) ∧
  (∀ s : State, storedCount s = occupancy (classAt s 0) + occupancy (classAt s 1) + occupancy (classAt s 2) + occupancy (classAt s 3)) ∧
  ∀ (c : Cls) (o : Content) (s : State),
    let x := classAt s c
    let room : Prop := occupancy x < x.limit.toNat ∧
      (c = 0 → 0 < 128 - storedCount s) ∧ (c ≠ 0 → s.reserve.toNat < 128 - storedCount s)
    (room → offer c o s = arbitrate
      { s with classes := s.classes.set c { x with
          unsent := x.unsent ++ [{ content := o, number := x.nextNumber, admittedAt := s.timebase, aged := false,
                                   lostBefore := if x.lostPending = 0 then none else some x.lostPending }]
          nextNumber := x.nextNumber + 1, lostPending := 0 } }) ∧
    (¬ room → offer c o s =
      { s with classes := s.classes.set c { x with
          lostPending := if x.lostPending = 0xFFFF#16 then x.lostPending else x.lostPending + 1 } })

/-- R33, R35, R42: with the transmitter IDLE the arbiter takes a reply, else a notice, else in UP the first class with a frame to offer: a
RESEND frame goes out as it was built, else a frame is built. With the transmitter BUSY nothing is selected. R29, R31: when a class is ready,
and when it offers a frame. R34, R170, R177: a frame holds the transmitter for its LEN + 4 characters, to the nearest microsecond at a
character time within 0.2 % of ten bit times at the nominal rate (log 6); the gap limit is ten character times (log 7). -/
def Obligations.ArbiterTakesRepliesThenNoticesThenClasses : Prop :=
  (∀ (c : Cls) (s : State),
    let x := classAt s c
    (ready c s = true ↔ s.link = .up ∧ x.frame = none ∧ ∃ oldest younger, x.unsent = oldest :: younger ∧
      (x.batchMin.toNat ≤ younger.length + 1 ∨ oldest.aged = true ∨
        x.batchHold.toNat * 1000 ≤ (s.timebase - oldest.admittedAt).toNat)) ∧
    (offersFrame c s = true ↔ ready c s = true ∨ (s.link = .up ∧ ∃ f, x.frame = some f ∧ f.state = .resend))) ∧
  (∀ (rate : RateCode) (f : TxFrame),
    let nominal := (#v[9600, 19200, 38400, 57600, 115200, 230400, 460800, 921600] : Vector Nat 8)[rate]
    let character := (#v[104170, 52080, 26040, 17360, 8680, 4340, 2170, 1085] : Vector Nat 8)[rate]
    bitRate rate = nominal ∧ charHundredths rate = character ∧
    998 * 1000000000 ≤ 1000 * (character * nominal) ∧ 1000 * (character * nominal) ≤ 1002 * 1000000000 ∧
    gapLimit rate = (#v[10417, 5208, 2604, 1736, 868, 434, 217, 109] : Vector Time 8)[rate] ∧
    frameTime rate f = BitVec.ofNat 32 ((((txBody f).length + 4) * character + 50) / 100)) ∧
  (∀ s : State, (s.replyQueue = [] → s.notices = [] → selectWaiting s = s) ∧
    (s.replyQueue ≠ [] ∨ s.notices ≠ [] → selectWaiting s = arbitrate s)) ∧
  ∀ s : State, s.hardReset = none →
    (s.tx ≠ none → arbitrate s = s) ∧
    (∀ r rest, s.tx = none → s.replyQueue = r :: rest →
      arbitrate s = { s with replyQueue := rest, tx := beginning (.reply r) s }) ∧
    (∀ n rest, s.tx = none → s.replyQueue = [] → s.notices = n :: rest →
      arbitrate s = { s with notices := rest, tx := beginning (.notice n) s }) ∧
    (s.replyQueue = [] → s.notices = [] → s.link ≠ .up → arbitrate s = s) ∧
    (s.replyQueue = [] → s.notices = [] → (∀ c : Cls, offersFrame c s = false) → arbitrate s = s) ∧
    (∀ (c : Cls), s.tx = none → s.replyQueue = [] → s.notices = [] → s.link = .up → (∀ c' : Cls, c' < c → offersFrame c' s = false) →
      let x := classAt s c
      (∀ f, x.frame = some f → f.state = .resend →
        arbitrate s = { s with
          classes := s.classes.set c { x with frame := some { f with state := .sending } }
          tx := beginning (.report s.session c f.seq f.records) s }) ∧
      (x.frame = none → ready c s = true →
        let records := x.unsent.take (min x.unsent.length x.frameMax.toNat)
        arbitrate s = { s with
          classes := s.classes.set c { x with
            unsent := x.unsent.drop (min x.unsent.length x.frameMax.toNat), nextSeq := x.nextSeq + 1, retryCount := 0
            frame := some { seq := x.nextSeq, records := records, state := .sending } }
          tx := beginning (.report s.session c x.nextSeq records) s }))

/-- R102, R103, R111 to R113: an event, EDGE, WIDTH or COUNT of a channel or EXPIRY of a timer, matches a trigger when it comes from the named
source and meets the qualifier: ANY every event, RISE and FALL an EDGE of that direction, AT_LEAST a WIDTH of w or more, BELOW a WIDTH of less
than w; a width that saturated meets AT_LEAST for every w and BELOW for none. The candidates are the entries that are ARMED and match when the event arrives, and the pass is their turns in ascending
index; at its turn a candidate that is no longer ARMED is left as it is, so one that the candidate before it disarms does not fire. An entry
fires at most once in a pass and only as a candidate; the lowest candidate fires; without one the pass changes nothing. -/
def Obligations.FiringPassFiresCandidatesOnce : Prop :=
  ∀ (ev : Content) (s : State),
    let fires := fun i : EntryId => (entryAt (firingPass ev s) i).fires
    (∀ c : EntryContents, ev.kind ≠ .done → (∀ tag, ev.kind ≠ .post tag) →
      (matchesTrigger ev c = true ↔
        ((∃ i, c.source = .channel i ∧ ev.source = i ∧ ∀ n, ev.kind ≠ .expiry n) ∨
          (∃ t n, c.source = .timer t ∧ ev.source.val = t.val ∧ ev.kind = .expiry n)) ∧
        (c.qualifier = .any ∨ (c.qualifier = .rise ∧ ev.kind = .edge .rise) ∨ (c.qualifier = .fall ∧ ev.kind = .edge .fall) ∨
          (c.qualifier = .atLeast ∧ ∃ p w isOver, ev.kind = .width p w isOver ∧ c.width.toNat ≤ w.toNat) ∨
          (c.qualifier = .below ∧ ∃ p w isOver, ev.kind = .width p w isOver ∧ w.toNat < c.width.toNat)))) ∧
    (∀ (i : ChannelId) (p : Polarity) (isOver : Bool) (c : EntryContents), c.source = .channel i → ev.source = i →
      (ev.kind = .width p c.width isOver → (c.qualifier = .atLeast → matchesTrigger ev c = true) ∧
        (c.qualifier = .below → matchesTrigger ev c = false)) ∧
      (ev.kind = .width p 16777215 isOver → (c.qualifier = .atLeast → matchesTrigger ev c = true) ∧
        (c.qualifier = .below → matchesTrigger ev c = false))) ∧
    (∀ i, isCandidate ev s i = true ↔ ∃ c, (entryAt s i).state = .armed c ∧ matchesTrigger ev c = true) ∧
    (∀ (candidates : List EntryId), candidates.Pairwise (· < ·) → (∀ i, i ∈ candidates ↔ isCandidate ev s i = true) →
      firingPass ev s = candidates.foldl (takeCandidate ev) s) ∧
    (∀ (i : EntryId) (u : State), (∀ c, (entryAt u i).state ≠ .armed c) → takeCandidate ev u i = u) ∧
    (∀ (i j : EntryId) (c d : EntryContents), i < j → (∀ k, isCandidate ev s k = true ↔ k = i ∨ k = j) →
      (entryAt s i).state = .armed c → (entryAt s j).state = .armed d → c.actions.map (·.action) = [.reactDisarm j] →
      firingPass ev s = takeCandidate ev s i ∧ entryAt (firingPass ev s) j = { entryAt s j with state := .disarmed d }) ∧
    ((∀ i, isCandidate ev s i = false) → firingPass ev s = s) ∧
    (∀ i, isCandidate ev s i = false → fires i = (entryAt s i).fires) ∧
    (∀ i, fires i = (entryAt s i).fires ∨ fires i = (entryAt s i).fires + 1) ∧
    (∀ i, isCandidate ev s i = true → (∀ j, j < i → isCandidate ev s j = false) → fires i = (entryAt s i).fires + 1)

/-- R105 to R110, R113: what the turn of an ARMED entry does: its actions in list order, each of the ten kinds as `acted` gives it; then the
firing is counted, and spent if the entry is still ARMED; the last firing of its limit disarms the entry and offers its DONE record. -/
def Obligations.EntryRunsItsActionThenSpendsTheFiring : Prop :=
  ∀ (ev : Content) (i : EntryId) (c : EntryContents) (s : State), (entryAt s i).state = .armed c →
    let ran := (c.actions.map (·.action)).foldl (acted ev i) s
    let fired := fun (state : EntryState) (remaining : Byte) =>
      ({ ran with entries := ran.entries.set i { state := state, remaining := remaining, fires := (entryAt s i).fires + 1 } } : State)
    let spent := fired (.disarmed c) 0
    ((entryAt ran i).state = .armed c ∨ (entryAt ran i).state = .disarmed c) ∧
    ((entryAt ran i).state = .disarmed c → takeCandidate ev s i = fired (.disarmed c) (entryAt ran i).remaining) ∧
    ((entryAt ran i).state = .armed c → c.fireLimit = 0 → takeCandidate ev s i = fired (.armed c) (entryAt ran i).remaining) ∧
    ((entryAt ran i).state = .armed c → c.fireLimit ≠ 0 → (entryAt ran i).remaining ≠ 1 →
      takeCandidate ev s i = fired (.armed c) ((entryAt ran i).remaining - 1)) ∧
    ((entryAt ran i).state = .armed c → c.fireLimit ≠ 0 → (entryAt ran i).remaining = 1 →
      takeCandidate ev s i =
        (if c.reportDone then offer c.doneClass { kind := .done, source := i, timestamp := ev.timestamp } spent else spent)) ∧
    (∀ k, c.actions.map (·.action) = [.chanArm k] → (channelAt s k).sampler = .off → (takeCandidate ev s i).channels = s.channels) ∧
    (∀ l v, c.actions.map (·.action) = [.out (.set l v)] → c.fireLimit = 0 →
      takeCandidate ev s i =
        { s with entries := s.entries.set i { entryAt s i with fires := (entryAt s i).fires + 1 },
                 outputs := if (outputAt s l).locked then s.outputs
                            else s.outputs.set l { outputAt s l with level := v, pulse := none } }) ∧
    (∀ l v d, c.actions.map (·.action) = [.out (.toggle l), .out (.pulse l v d)] → (outputAt s l).locked = false → c.fireLimit = 0 →
      takeCandidate ev s i =
        { s with
            entries := s.entries.set i { entryAt s i with fires := (entryAt s i).fires + 1 }
            outputs := s.outputs.set l { outputAt s l with
              level := v, pulse := some { endTime := s.timebase + d.setWidth 32, restore := !(outputAt s l).level } } }) ∧
    (∀ t, c.actions.map (·.action) = [.timerStart t] → c.fireLimit ≠ 0 → (entryAt s i).remaining ≠ 1 →
      takeCandidate ev s i =
        { s with entries := s.entries.set i ({ entryAt s i with
                   fires := (entryAt s i).fires + 1, remaining := (entryAt s i).remaining - 1 } : Entry),
                 timers := s.timers.set t { timerAt s t with due := some (s.timebase + (timerAt s t).period.setWidth 32) } }) ∧
    (∀ tag k, c.actions.map (·.action) = [.post k tag] → c.fireLimit ≠ 0 → (entryAt s i).remaining = 1 →
      let posted := offer k { kind := .post tag, source := i, timestamp := ev.timestamp } s
      let done := { posted with
        entries := s.entries.set i { state := .disarmed c, remaining := 0, fires := (entryAt s i).fires + 1 } }
      takeCandidate ev s i =
        (if c.reportDone then offer c.doneClass { kind := .done, source := i, timestamp := ev.timestamp } done else done)) ∧
    (c.actions.map (·.action) = [.reactDisarm i] →
      takeCandidate ev s i =
        { s with entries := s.entries.set i { entryAt s i with state := .disarmed c, fires := (entryAt s i).fires + 1 } })

/-! ### Invariants -/

/-- The state right after reset meets every invariant stated below. -/
def Obligations.ResetIsSafe : Prop :=
  PoolSafe State.reset ∧ NumberingSafe State.reset ∧ DeliverySafe State.reset ∧ LocksSafe State.reset ∧ AttnSafe State.reset ∧
    SilenceSafe State.reset ∧ HandlerSafe State.reset ∧ ReceiverSafe State.reset ∧ ChannelsSafe State.reset ∧
    EntriesSafe State.reset ∧ TimesAhead State.reset

/-- R1, R3, R4: no step stores more than 128 records, more than a class's limit, or lets C1 to C3 into the reserve. -/
def Obligations.StepKeepsThePool : Prop := ∀ s t : State, PoolSafe s → step s = .next t → PoolSafe t

/-- R13: after every step the stored records of each class carry consecutive event numbers, the frame in flight first. -/
def Obligations.StepKeepsTheNumbering : Prop := ∀ s t : State, NumberingSafe s → step s = .next t → NumberingSafe t

/-- R28, R37, R44 to R46: every step keeps each frame in flight in a state its link allows, SENDING only while it is on TXD. -/
def Obligations.StepKeepsDelivery : Prop := ∀ s t : State, DeliverySafe s → step s = .next t → DeliverySafe t

/-- R127, R128: every step keeps exactly the DRIVE lines of a STALLED link locked, at their safe level and without a pulse. -/
def Obligations.StepKeepsTheLocks : Prop := ∀ s t : State, LocksSafe s → step s = .next t → LocksSafe t

/-- R143, R145: after every step ATTN is asserted exactly when the rule says, and the silence timer runs exactly in UP with a limit above 0. -/
def Obligations.StepKeepsAttnAndTheSilenceTimer : Prop :=
  (∀ s t : State, AttnSafe s → step s = .next t → AttnSafe t) ∧ (∀ s t : State, SilenceSafe s → step s = .next t → SilenceSafe t)

/-- R146, R154, R158, R169, R174: every step keeps the queues and the cache within their capacities, waiting requests, cached tags and notice
kinds distinct, leaves no request waiting that the handler may take, and keeps what the receiver has collected in agreement with its state. -/
def Obligations.StepKeepsHandlerAndReceiver : Prop :=
  (∀ s t : State, HandlerSafe s → step s = .next t → HandlerSafe t) ∧ (∀ s t : State, ReceiverSafe s → step s = .next t → ReceiverSafe t)

/-- R52, R59, R61, R72, R80, R100, R101: every step keeps the conditions of every channel and of every reaction entry. -/
def Obligations.StepKeepsChannelsAndEntries : Prop :=
  (∀ s t : State, ChannelsSafe s → step s = .next t → ChannelsSafe t) ∧ (∀ s t : State, EntriesSafe s → step s = .next t → EntriesSafe t)

/-- R34, R53, R70, R75, R88, R124, R177: no step passes by a due time, an end time, a saturation point or a sample instant of a run; the
moment of a rate change is kept for less than 300,000 us (log 22). At the microsecond of an event still to be taken the distance is 0 (log
24). -/
def Obligations.StepKeepsTimesAhead : Prop := ∀ s t : State, TimesAhead s → step s = .next t → TimesAhead t
end

