-- ==== Sys2Proof/Laws/Layouts.lean ====
section
/-! SUPPORT. Fields and indices on the link read back as they were sent (R180, R182). -/

namespace Sys2Proof.Machine

open Sys2Proof

theorem toNat_append_bytes {m : Nat} (a : BitVec m) (b : Byte) : (a ++ b).toNat = a.toNat * 256 + b.toNat := by
  have hb := b.isLt
  rw [BitVec.toNat_append, ← Nat.shiftLeft_add_eq_or_of_lt hb, Nat.shiftLeft_eq]

theorem join16_bytes16 (w : Word16) : join16 (w.extractLsb' 8 8) (w.extractLsb' 0 8) = w := by
  apply BitVec.eq_of_toNat_eq
  have := w.isLt
  rw [join16, toNat_append_bytes]
  simp [Nat.shiftRight_eq_div_pow]
  omega

theorem join24_bytes24 (w : Word24) : join24 (w.extractLsb' 16 8) (w.extractLsb' 8 8) (w.extractLsb' 0 8) = w := by
  apply BitVec.eq_of_toNat_eq
  have := w.isLt
  rw [join24, toNat_append_bytes, toNat_append_bytes]
  simp [Nat.shiftRight_eq_div_pow]
  omega

theorem bytes16_join16 (a b : Byte) : bytes16 (join16 a b) = [a, b] := by
  have ha := a.isLt
  have hb := b.isLt
  simp only [bytes16, join16, List.cons.injEq, and_true]
  constructor <;> apply BitVec.eq_of_toNat_eq
  · rw [BitVec.extractLsb'_toNat, toNat_append_bytes, Nat.shiftRight_eq_div_pow]; omega
  · rw [BitVec.extractLsb'_toNat, toNat_append_bytes, Nat.shiftRight_eq_div_pow]; omega

theorem bytes24_join24 (a b c : Byte) : bytes24 (join24 a b c) = [a, b, c] := by
  have ha := a.isLt
  have hb := b.isLt
  have hc := c.isLt
  simp only [bytes24, join24, List.cons.injEq, and_true]
  refine ⟨?_, ?_, ?_⟩ <;> apply BitVec.eq_of_toNat_eq <;>
    (rw [BitVec.extractLsb'_toNat, toNat_append_bytes, toNat_append_bytes, Nat.shiftRight_eq_div_pow]; omega)

theorem bytes16_length (w : Word16) : (bytes16 w).length = 2 := rfl
theorem bytes24_length (w : Word24) : (bytes24 w).length = 3 := rfl

/-- An index in range is read back from its byte. -/
theorem indexOf_byteOf (n : Nat) (hn : n ≤ 256) (i : Fin n) : indexOf n (byteOf i.val) = some i := by
  have : i.val < 256 := by omega
  simp [indexOf, byteOf, Nat.mod_eq_of_lt this]

/-- A byte out of range names no index. -/
theorem indexOf_none (n : Nat) (b : Byte) (h : n ≤ b.toNat) : indexOf n b = none := by
  simp [indexOf]; omega

theorem indexOf_some {n : Nat} {b : Byte} {i : Fin n} (h : indexOf n b = some i) : b.toNat = i.val ∧ b = byteOf i.val := by
  unfold indexOf at h
  split at h
  · cases h
    exact ⟨rfl, by simp [byteOf]⟩
  · cases h

theorem flagOf_flagByte (b : Bool) : flagOf (flagByte b) = some b := by cases b <;> rfl

theorem flagOf_none (b : Byte) (h : 2 ≤ b.toNat) : flagOf b = none := by
  have h0 : b ≠ 0 := by rintro rfl; simp at h
  have h1 : b ≠ 1 := by rintro rfl; simp at h
  simp only [flagOf, h0, h1, if_false]

end Sys2Proof.Machine
end

