-- ==== Sys2Proof/Laws/State.lean ====
section
/-! SUPPORT. One lemma per field per update of the state: each is true by `rfl` and tagged simp, so that no later proof unfolds a record
update; and for each block, that reading what was just written gives it, and reading another index what stood there. -/

namespace Sys2Proof.Machine

open Sys2Proof

/-! ### Reading back -/

@[simp] theorem classAt_setClass_same (k : Cls) (x) (s : State) : classAt (setClass k x s) k = x := by simp [classAt, setClass]
theorem classAt_setClass_ne (k k' : Cls) (x) (s : State) (h : k' ≠ k) : classAt (setClass k x s) k' = classAt s k' := by
  have : k.val ≠ k'.val := fun e => h (Fin.ext e.symm)
  simp [classAt, setClass, this]
theorem classAt_setClass (k k' : Cls) (x) (s : State) : classAt (setClass k x s) k' = if k' = k then x else classAt s k' := by
  split
  · next h => subst h; exact classAt_setClass_same _ _ _
  · next h => exact classAt_setClass_ne _ _ _ _ h
@[simp] theorem channelAt_setChannel_same (k : ChannelId) (x) (s : State) : channelAt (setChannel k x s) k = x := by simp [channelAt, setChannel]
theorem channelAt_setChannel_ne (k k' : ChannelId) (x) (s : State) (h : k' ≠ k) : channelAt (setChannel k x s) k' = channelAt s k' := by
  have : k.val ≠ k'.val := fun e => h (Fin.ext e.symm)
  simp [channelAt, setChannel, this]
theorem channelAt_setChannel (k k' : ChannelId) (x) (s : State) : channelAt (setChannel k x s) k' = if k' = k then x else channelAt s k' := by
  split
  · next h => subst h; exact channelAt_setChannel_same _ _ _
  · next h => exact channelAt_setChannel_ne _ _ _ _ h
@[simp] theorem timerAt_setTimer_same (k : TimerId) (x) (s : State) : timerAt (setTimer k x s) k = x := by simp [timerAt, setTimer]
theorem timerAt_setTimer_ne (k k' : TimerId) (x) (s : State) (h : k' ≠ k) : timerAt (setTimer k x s) k' = timerAt s k' := by
  have : k.val ≠ k'.val := fun e => h (Fin.ext e.symm)
  simp [timerAt, setTimer, this]
theorem timerAt_setTimer (k k' : TimerId) (x) (s : State) : timerAt (setTimer k x s) k' = if k' = k then x else timerAt s k' := by
  split
  · next h => subst h; exact timerAt_setTimer_same _ _ _
  · next h => exact timerAt_setTimer_ne _ _ _ _ h
@[simp] theorem entryAt_setEntry_same (k : EntryId) (x) (s : State) : entryAt (setEntry k x s) k = x := by simp [entryAt, setEntry]
theorem entryAt_setEntry_ne (k k' : EntryId) (x) (s : State) (h : k' ≠ k) : entryAt (setEntry k x s) k' = entryAt s k' := by
  have : k.val ≠ k'.val := fun e => h (Fin.ext e.symm)
  simp [entryAt, setEntry, this]
theorem entryAt_setEntry (k k' : EntryId) (x) (s : State) : entryAt (setEntry k x s) k' = if k' = k then x else entryAt s k' := by
  split
  · next h => subst h; exact entryAt_setEntry_same _ _ _
  · next h => exact entryAt_setEntry_ne _ _ _ _ h
@[simp] theorem outputAt_setOutput_same (k : LineId) (x) (s : State) : outputAt (setOutput k x s) k = x := by simp [outputAt, setOutput]
theorem outputAt_setOutput_ne (k k' : LineId) (x) (s : State) (h : k' ≠ k) : outputAt (setOutput k x s) k' = outputAt s k' := by
  have : k.val ≠ k'.val := fun e => h (Fin.ext e.symm)
  simp [outputAt, setOutput, this]
theorem outputAt_setOutput (k k' : LineId) (x) (s : State) : outputAt (setOutput k x s) k' = if k' = k then x else outputAt s k' := by
  split
  · next h => subst h; exact outputAt_setOutput_same _ _ _
  · next h => exact outputAt_setOutput_ne _ _ _ _ h

/-! ### Fields after an update -/

@[simp] theorem setClass_timebase (c : Cls) (x : ClassState) (s : State) : (setClass c x s).timebase = s.timebase := rfl
@[simp] theorem setClass_hardReset (c : Cls) (x : ClassState) (s : State) : (setClass c x s).hardReset = s.hardReset := rfl
@[simp] theorem setClass_classes (c : Cls) (x : ClassState) (s : State) : (setClass c x s).classes = s.classes.set c x := rfl
@[simp] theorem setClass_reserve (c : Cls) (x : ClassState) (s : State) : (setClass c x s).reserve = s.reserve := rfl
@[simp] theorem setClass_retransmitTimeout (c : Cls) (x : ClassState) (s : State) : (setClass c x s).retransmitTimeout = s.retransmitTimeout := rfl
@[simp] theorem setClass_retryLimit (c : Cls) (x : ClassState) (s : State) : (setClass c x s).retryLimit = s.retryLimit := rfl
@[simp] theorem setClass_tx (c : Cls) (x : ClassState) (s : State) : (setClass c x s).tx = s.tx := rfl
@[simp] theorem setClass_channels (c : Cls) (x : ClassState) (s : State) : (setClass c x s).channels = s.channels := rfl
@[simp] theorem setClass_inputs (c : Cls) (x : ClassState) (s : State) : (setClass c x s).inputs = s.inputs := rfl
@[simp] theorem setClass_timers (c : Cls) (x : ClassState) (s : State) : (setClass c x s).timers = s.timers := rfl
@[simp] theorem setClass_entries (c : Cls) (x : ClassState) (s : State) : (setClass c x s).entries = s.entries := rfl
@[simp] theorem setClass_outputs (c : Cls) (x : ClassState) (s : State) : (setClass c x s).outputs = s.outputs := rfl
@[simp] theorem setClass_link (c : Cls) (x : ClassState) (s : State) : (setClass c x s).link = s.link := rfl
@[simp] theorem setClass_session (c : Cls) (x : ClassState) (s : State) : (setClass c x s).session = s.session := rfl
@[simp] theorem setClass_silenceDue (c : Cls) (x : ClassState) (s : State) : (setClass c x s).silenceDue = s.silenceDue := rfl
@[simp] theorem setClass_silenceLimit (c : Cls) (x : ClassState) (s : State) : (setClass c x s).silenceLimit = s.silenceLimit := rfl
@[simp] theorem setClass_notices (c : Cls) (x : ClassState) (s : State) : (setClass c x s).notices = s.notices := rfl
@[simp] theorem setClass_attn (c : Cls) (x : ClassState) (s : State) : (setClass c x s).attn = s.attn := rfl
@[simp] theorem setClass_pendingReset (c : Cls) (x : ClassState) (s : State) : (setClass c x s).pendingReset = s.pendingReset := rfl
@[simp] theorem setClass_requestQueue (c : Cls) (x : ClassState) (s : State) : (setClass c x s).requestQueue = s.requestQueue := rfl
@[simp] theorem setClass_replyQueue (c : Cls) (x : ClassState) (s : State) : (setClass c x s).replyQueue = s.replyQueue := rfl
@[simp] theorem setClass_replyCache (c : Cls) (x : ClassState) (s : State) : (setClass c x s).replyCache = s.replyCache := rfl
@[simp] theorem setClass_rate (c : Cls) (x : ClassState) (s : State) : (setClass c x s).rate = s.rate := rfl
@[simp] theorem setClass_rx (c : Cls) (x : ClassState) (s : State) : (setClass c x s).rx = s.rx := rfl
@[simp] theorem setClass_candidate (c : Cls) (x : ClassState) (s : State) : (setClass c x s).candidate = s.candidate := rfl
@[simp] theorem setClass_gapDue (c : Cls) (x : ClassState) (s : State) : (setClass c x s).gapDue = s.gapDue := rfl
@[simp] theorem setClass_discards (c : Cls) (x : ClassState) (s : State) : (setClass c x s).discards = s.discards := rfl
@[simp] theorem setClass_rxHeld (c : Cls) (x : ClassState) (s : State) : (setClass c x s).rxHeld = s.rxHeld := rfl
@[simp] theorem setClass_rateChange (c : Cls) (x : ClassState) (s : State) : (setClass c x s).rateChange = s.rateChange := rfl
@[simp] theorem setClass_pending (c : Cls) (x : ClassState) (s : State) : (setClass c x s).pending = s.pending := rfl
@[simp] theorem channelAt_setClass_frame (c : Cls) (x : ClassState) (s : State) (k : ChannelId) : channelAt (setClass c x s) k = channelAt s k := rfl
@[simp] theorem timerAt_setClass_frame (c : Cls) (x : ClassState) (s : State) (k : TimerId) : timerAt (setClass c x s) k = timerAt s k := rfl
@[simp] theorem entryAt_setClass_frame (c : Cls) (x : ClassState) (s : State) (k : EntryId) : entryAt (setClass c x s) k = entryAt s k := rfl
@[simp] theorem outputAt_setClass_frame (c : Cls) (x : ClassState) (s : State) (k : LineId) : outputAt (setClass c x s) k = outputAt s k := rfl

@[simp] theorem setChannel_timebase (i : ChannelId) (x : Channel) (s : State) : (setChannel i x s).timebase = s.timebase := rfl
@[simp] theorem setChannel_hardReset (i : ChannelId) (x : Channel) (s : State) : (setChannel i x s).hardReset = s.hardReset := rfl
@[simp] theorem setChannel_classes (i : ChannelId) (x : Channel) (s : State) : (setChannel i x s).classes = s.classes := rfl
@[simp] theorem setChannel_reserve (i : ChannelId) (x : Channel) (s : State) : (setChannel i x s).reserve = s.reserve := rfl
@[simp] theorem setChannel_retransmitTimeout (i : ChannelId) (x : Channel) (s : State) : (setChannel i x s).retransmitTimeout = s.retransmitTimeout := rfl
@[simp] theorem setChannel_retryLimit (i : ChannelId) (x : Channel) (s : State) : (setChannel i x s).retryLimit = s.retryLimit := rfl
@[simp] theorem setChannel_tx (i : ChannelId) (x : Channel) (s : State) : (setChannel i x s).tx = s.tx := rfl
@[simp] theorem setChannel_channels (i : ChannelId) (x : Channel) (s : State) : (setChannel i x s).channels = s.channels.set i x := rfl
@[simp] theorem setChannel_inputs (i : ChannelId) (x : Channel) (s : State) : (setChannel i x s).inputs = s.inputs := rfl
@[simp] theorem setChannel_timers (i : ChannelId) (x : Channel) (s : State) : (setChannel i x s).timers = s.timers := rfl
@[simp] theorem setChannel_entries (i : ChannelId) (x : Channel) (s : State) : (setChannel i x s).entries = s.entries := rfl
@[simp] theorem setChannel_outputs (i : ChannelId) (x : Channel) (s : State) : (setChannel i x s).outputs = s.outputs := rfl
@[simp] theorem setChannel_link (i : ChannelId) (x : Channel) (s : State) : (setChannel i x s).link = s.link := rfl
@[simp] theorem setChannel_session (i : ChannelId) (x : Channel) (s : State) : (setChannel i x s).session = s.session := rfl
@[simp] theorem setChannel_silenceDue (i : ChannelId) (x : Channel) (s : State) : (setChannel i x s).silenceDue = s.silenceDue := rfl
@[simp] theorem setChannel_silenceLimit (i : ChannelId) (x : Channel) (s : State) : (setChannel i x s).silenceLimit = s.silenceLimit := rfl
@[simp] theorem setChannel_notices (i : ChannelId) (x : Channel) (s : State) : (setChannel i x s).notices = s.notices := rfl
@[simp] theorem setChannel_attn (i : ChannelId) (x : Channel) (s : State) : (setChannel i x s).attn = s.attn := rfl
@[simp] theorem setChannel_pendingReset (i : ChannelId) (x : Channel) (s : State) : (setChannel i x s).pendingReset = s.pendingReset := rfl
@[simp] theorem setChannel_requestQueue (i : ChannelId) (x : Channel) (s : State) : (setChannel i x s).requestQueue = s.requestQueue := rfl
@[simp] theorem setChannel_replyQueue (i : ChannelId) (x : Channel) (s : State) : (setChannel i x s).replyQueue = s.replyQueue := rfl
@[simp] theorem setChannel_replyCache (i : ChannelId) (x : Channel) (s : State) : (setChannel i x s).replyCache = s.replyCache := rfl
@[simp] theorem setChannel_rate (i : ChannelId) (x : Channel) (s : State) : (setChannel i x s).rate = s.rate := rfl
@[simp] theorem setChannel_rx (i : ChannelId) (x : Channel) (s : State) : (setChannel i x s).rx = s.rx := rfl
@[simp] theorem setChannel_candidate (i : ChannelId) (x : Channel) (s : State) : (setChannel i x s).candidate = s.candidate := rfl
@[simp] theorem setChannel_gapDue (i : ChannelId) (x : Channel) (s : State) : (setChannel i x s).gapDue = s.gapDue := rfl
@[simp] theorem setChannel_discards (i : ChannelId) (x : Channel) (s : State) : (setChannel i x s).discards = s.discards := rfl
@[simp] theorem setChannel_rxHeld (i : ChannelId) (x : Channel) (s : State) : (setChannel i x s).rxHeld = s.rxHeld := rfl
@[simp] theorem setChannel_rateChange (i : ChannelId) (x : Channel) (s : State) : (setChannel i x s).rateChange = s.rateChange := rfl
@[simp] theorem setChannel_pending (i : ChannelId) (x : Channel) (s : State) : (setChannel i x s).pending = s.pending := rfl
@[simp] theorem classAt_setChannel_frame (i : ChannelId) (x : Channel) (s : State) (k : Cls) : classAt (setChannel i x s) k = classAt s k := rfl
@[simp] theorem timerAt_setChannel_frame (i : ChannelId) (x : Channel) (s : State) (k : TimerId) : timerAt (setChannel i x s) k = timerAt s k := rfl
@[simp] theorem entryAt_setChannel_frame (i : ChannelId) (x : Channel) (s : State) (k : EntryId) : entryAt (setChannel i x s) k = entryAt s k := rfl
@[simp] theorem outputAt_setChannel_frame (i : ChannelId) (x : Channel) (s : State) (k : LineId) : outputAt (setChannel i x s) k = outputAt s k := rfl

@[simp] theorem setTimer_timebase (t : TimerId) (x : Timer) (s : State) : (setTimer t x s).timebase = s.timebase := rfl
@[simp] theorem setTimer_hardReset (t : TimerId) (x : Timer) (s : State) : (setTimer t x s).hardReset = s.hardReset := rfl
@[simp] theorem setTimer_classes (t : TimerId) (x : Timer) (s : State) : (setTimer t x s).classes = s.classes := rfl
@[simp] theorem setTimer_reserve (t : TimerId) (x : Timer) (s : State) : (setTimer t x s).reserve = s.reserve := rfl
@[simp] theorem setTimer_retransmitTimeout (t : TimerId) (x : Timer) (s : State) : (setTimer t x s).retransmitTimeout = s.retransmitTimeout := rfl
@[simp] theorem setTimer_retryLimit (t : TimerId) (x : Timer) (s : State) : (setTimer t x s).retryLimit = s.retryLimit := rfl
@[simp] theorem setTimer_tx (t : TimerId) (x : Timer) (s : State) : (setTimer t x s).tx = s.tx := rfl
@[simp] theorem setTimer_channels (t : TimerId) (x : Timer) (s : State) : (setTimer t x s).channels = s.channels := rfl
@[simp] theorem setTimer_inputs (t : TimerId) (x : Timer) (s : State) : (setTimer t x s).inputs = s.inputs := rfl
@[simp] theorem setTimer_timers (t : TimerId) (x : Timer) (s : State) : (setTimer t x s).timers = s.timers.set t x := rfl
@[simp] theorem setTimer_entries (t : TimerId) (x : Timer) (s : State) : (setTimer t x s).entries = s.entries := rfl
@[simp] theorem setTimer_outputs (t : TimerId) (x : Timer) (s : State) : (setTimer t x s).outputs = s.outputs := rfl
@[simp] theorem setTimer_link (t : TimerId) (x : Timer) (s : State) : (setTimer t x s).link = s.link := rfl
@[simp] theorem setTimer_session (t : TimerId) (x : Timer) (s : State) : (setTimer t x s).session = s.session := rfl
@[simp] theorem setTimer_silenceDue (t : TimerId) (x : Timer) (s : State) : (setTimer t x s).silenceDue = s.silenceDue := rfl
@[simp] theorem setTimer_silenceLimit (t : TimerId) (x : Timer) (s : State) : (setTimer t x s).silenceLimit = s.silenceLimit := rfl
@[simp] theorem setTimer_notices (t : TimerId) (x : Timer) (s : State) : (setTimer t x s).notices = s.notices := rfl
@[simp] theorem setTimer_attn (t : TimerId) (x : Timer) (s : State) : (setTimer t x s).attn = s.attn := rfl
@[simp] theorem setTimer_pendingReset (t : TimerId) (x : Timer) (s : State) : (setTimer t x s).pendingReset = s.pendingReset := rfl
@[simp] theorem setTimer_requestQueue (t : TimerId) (x : Timer) (s : State) : (setTimer t x s).requestQueue = s.requestQueue := rfl
@[simp] theorem setTimer_replyQueue (t : TimerId) (x : Timer) (s : State) : (setTimer t x s).replyQueue = s.replyQueue := rfl
@[simp] theorem setTimer_replyCache (t : TimerId) (x : Timer) (s : State) : (setTimer t x s).replyCache = s.replyCache := rfl
@[simp] theorem setTimer_rate (t : TimerId) (x : Timer) (s : State) : (setTimer t x s).rate = s.rate := rfl
@[simp] theorem setTimer_rx (t : TimerId) (x : Timer) (s : State) : (setTimer t x s).rx = s.rx := rfl
@[simp] theorem setTimer_candidate (t : TimerId) (x : Timer) (s : State) : (setTimer t x s).candidate = s.candidate := rfl
@[simp] theorem setTimer_gapDue (t : TimerId) (x : Timer) (s : State) : (setTimer t x s).gapDue = s.gapDue := rfl
@[simp] theorem setTimer_discards (t : TimerId) (x : Timer) (s : State) : (setTimer t x s).discards = s.discards := rfl
@[simp] theorem setTimer_rxHeld (t : TimerId) (x : Timer) (s : State) : (setTimer t x s).rxHeld = s.rxHeld := rfl
@[simp] theorem setTimer_rateChange (t : TimerId) (x : Timer) (s : State) : (setTimer t x s).rateChange = s.rateChange := rfl
@[simp] theorem setTimer_pending (t : TimerId) (x : Timer) (s : State) : (setTimer t x s).pending = s.pending := rfl
@[simp] theorem classAt_setTimer_frame (t : TimerId) (x : Timer) (s : State) (k : Cls) : classAt (setTimer t x s) k = classAt s k := rfl
@[simp] theorem channelAt_setTimer_frame (t : TimerId) (x : Timer) (s : State) (k : ChannelId) : channelAt (setTimer t x s) k = channelAt s k := rfl
@[simp] theorem entryAt_setTimer_frame (t : TimerId) (x : Timer) (s : State) (k : EntryId) : entryAt (setTimer t x s) k = entryAt s k := rfl
@[simp] theorem outputAt_setTimer_frame (t : TimerId) (x : Timer) (s : State) (k : LineId) : outputAt (setTimer t x s) k = outputAt s k := rfl

@[simp] theorem setEntry_timebase (i : EntryId) (x : Entry) (s : State) : (setEntry i x s).timebase = s.timebase := rfl
@[simp] theorem setEntry_hardReset (i : EntryId) (x : Entry) (s : State) : (setEntry i x s).hardReset = s.hardReset := rfl
@[simp] theorem setEntry_classes (i : EntryId) (x : Entry) (s : State) : (setEntry i x s).classes = s.classes := rfl
@[simp] theorem setEntry_reserve (i : EntryId) (x : Entry) (s : State) : (setEntry i x s).reserve = s.reserve := rfl
@[simp] theorem setEntry_retransmitTimeout (i : EntryId) (x : Entry) (s : State) : (setEntry i x s).retransmitTimeout = s.retransmitTimeout := rfl
@[simp] theorem setEntry_retryLimit (i : EntryId) (x : Entry) (s : State) : (setEntry i x s).retryLimit = s.retryLimit := rfl
@[simp] theorem setEntry_tx (i : EntryId) (x : Entry) (s : State) : (setEntry i x s).tx = s.tx := rfl
@[simp] theorem setEntry_channels (i : EntryId) (x : Entry) (s : State) : (setEntry i x s).channels = s.channels := rfl
@[simp] theorem setEntry_inputs (i : EntryId) (x : Entry) (s : State) : (setEntry i x s).inputs = s.inputs := rfl
@[simp] theorem setEntry_timers (i : EntryId) (x : Entry) (s : State) : (setEntry i x s).timers = s.timers := rfl
@[simp] theorem setEntry_entries (i : EntryId) (x : Entry) (s : State) : (setEntry i x s).entries = s.entries.set i x := rfl
@[simp] theorem setEntry_outputs (i : EntryId) (x : Entry) (s : State) : (setEntry i x s).outputs = s.outputs := rfl
@[simp] theorem setEntry_link (i : EntryId) (x : Entry) (s : State) : (setEntry i x s).link = s.link := rfl
@[simp] theorem setEntry_session (i : EntryId) (x : Entry) (s : State) : (setEntry i x s).session = s.session := rfl
@[simp] theorem setEntry_silenceDue (i : EntryId) (x : Entry) (s : State) : (setEntry i x s).silenceDue = s.silenceDue := rfl
@[simp] theorem setEntry_silenceLimit (i : EntryId) (x : Entry) (s : State) : (setEntry i x s).silenceLimit = s.silenceLimit := rfl
@[simp] theorem setEntry_notices (i : EntryId) (x : Entry) (s : State) : (setEntry i x s).notices = s.notices := rfl
@[simp] theorem setEntry_attn (i : EntryId) (x : Entry) (s : State) : (setEntry i x s).attn = s.attn := rfl
@[simp] theorem setEntry_pendingReset (i : EntryId) (x : Entry) (s : State) : (setEntry i x s).pendingReset = s.pendingReset := rfl
@[simp] theorem setEntry_requestQueue (i : EntryId) (x : Entry) (s : State) : (setEntry i x s).requestQueue = s.requestQueue := rfl
@[simp] theorem setEntry_replyQueue (i : EntryId) (x : Entry) (s : State) : (setEntry i x s).replyQueue = s.replyQueue := rfl
@[simp] theorem setEntry_replyCache (i : EntryId) (x : Entry) (s : State) : (setEntry i x s).replyCache = s.replyCache := rfl
@[simp] theorem setEntry_rate (i : EntryId) (x : Entry) (s : State) : (setEntry i x s).rate = s.rate := rfl
@[simp] theorem setEntry_rx (i : EntryId) (x : Entry) (s : State) : (setEntry i x s).rx = s.rx := rfl
@[simp] theorem setEntry_candidate (i : EntryId) (x : Entry) (s : State) : (setEntry i x s).candidate = s.candidate := rfl
@[simp] theorem setEntry_gapDue (i : EntryId) (x : Entry) (s : State) : (setEntry i x s).gapDue = s.gapDue := rfl
@[simp] theorem setEntry_discards (i : EntryId) (x : Entry) (s : State) : (setEntry i x s).discards = s.discards := rfl
@[simp] theorem setEntry_rxHeld (i : EntryId) (x : Entry) (s : State) : (setEntry i x s).rxHeld = s.rxHeld := rfl
@[simp] theorem setEntry_rateChange (i : EntryId) (x : Entry) (s : State) : (setEntry i x s).rateChange = s.rateChange := rfl
@[simp] theorem setEntry_pending (i : EntryId) (x : Entry) (s : State) : (setEntry i x s).pending = s.pending := rfl
@[simp] theorem classAt_setEntry_frame (i : EntryId) (x : Entry) (s : State) (k : Cls) : classAt (setEntry i x s) k = classAt s k := rfl
@[simp] theorem channelAt_setEntry_frame (i : EntryId) (x : Entry) (s : State) (k : ChannelId) : channelAt (setEntry i x s) k = channelAt s k := rfl
@[simp] theorem timerAt_setEntry_frame (i : EntryId) (x : Entry) (s : State) (k : TimerId) : timerAt (setEntry i x s) k = timerAt s k := rfl
@[simp] theorem outputAt_setEntry_frame (i : EntryId) (x : Entry) (s : State) (k : LineId) : outputAt (setEntry i x s) k = outputAt s k := rfl

@[simp] theorem setOutput_timebase (l : LineId) (x : Output) (s : State) : (setOutput l x s).timebase = s.timebase := rfl
@[simp] theorem setOutput_hardReset (l : LineId) (x : Output) (s : State) : (setOutput l x s).hardReset = s.hardReset := rfl
@[simp] theorem setOutput_classes (l : LineId) (x : Output) (s : State) : (setOutput l x s).classes = s.classes := rfl
@[simp] theorem setOutput_reserve (l : LineId) (x : Output) (s : State) : (setOutput l x s).reserve = s.reserve := rfl
@[simp] theorem setOutput_retransmitTimeout (l : LineId) (x : Output) (s : State) : (setOutput l x s).retransmitTimeout = s.retransmitTimeout := rfl
@[simp] theorem setOutput_retryLimit (l : LineId) (x : Output) (s : State) : (setOutput l x s).retryLimit = s.retryLimit := rfl
@[simp] theorem setOutput_tx (l : LineId) (x : Output) (s : State) : (setOutput l x s).tx = s.tx := rfl
@[simp] theorem setOutput_channels (l : LineId) (x : Output) (s : State) : (setOutput l x s).channels = s.channels := rfl
@[simp] theorem setOutput_inputs (l : LineId) (x : Output) (s : State) : (setOutput l x s).inputs = s.inputs := rfl
@[simp] theorem setOutput_timers (l : LineId) (x : Output) (s : State) : (setOutput l x s).timers = s.timers := rfl
@[simp] theorem setOutput_entries (l : LineId) (x : Output) (s : State) : (setOutput l x s).entries = s.entries := rfl
@[simp] theorem setOutput_outputs (l : LineId) (x : Output) (s : State) : (setOutput l x s).outputs = s.outputs.set l x := rfl
@[simp] theorem setOutput_link (l : LineId) (x : Output) (s : State) : (setOutput l x s).link = s.link := rfl
@[simp] theorem setOutput_session (l : LineId) (x : Output) (s : State) : (setOutput l x s).session = s.session := rfl
@[simp] theorem setOutput_silenceDue (l : LineId) (x : Output) (s : State) : (setOutput l x s).silenceDue = s.silenceDue := rfl
@[simp] theorem setOutput_silenceLimit (l : LineId) (x : Output) (s : State) : (setOutput l x s).silenceLimit = s.silenceLimit := rfl
@[simp] theorem setOutput_notices (l : LineId) (x : Output) (s : State) : (setOutput l x s).notices = s.notices := rfl
@[simp] theorem setOutput_attn (l : LineId) (x : Output) (s : State) : (setOutput l x s).attn = s.attn := rfl
@[simp] theorem setOutput_pendingReset (l : LineId) (x : Output) (s : State) : (setOutput l x s).pendingReset = s.pendingReset := rfl
@[simp] theorem setOutput_requestQueue (l : LineId) (x : Output) (s : State) : (setOutput l x s).requestQueue = s.requestQueue := rfl
@[simp] theorem setOutput_replyQueue (l : LineId) (x : Output) (s : State) : (setOutput l x s).replyQueue = s.replyQueue := rfl
@[simp] theorem setOutput_replyCache (l : LineId) (x : Output) (s : State) : (setOutput l x s).replyCache = s.replyCache := rfl
@[simp] theorem setOutput_rate (l : LineId) (x : Output) (s : State) : (setOutput l x s).rate = s.rate := rfl
@[simp] theorem setOutput_rx (l : LineId) (x : Output) (s : State) : (setOutput l x s).rx = s.rx := rfl
@[simp] theorem setOutput_candidate (l : LineId) (x : Output) (s : State) : (setOutput l x s).candidate = s.candidate := rfl
@[simp] theorem setOutput_gapDue (l : LineId) (x : Output) (s : State) : (setOutput l x s).gapDue = s.gapDue := rfl
@[simp] theorem setOutput_discards (l : LineId) (x : Output) (s : State) : (setOutput l x s).discards = s.discards := rfl
@[simp] theorem setOutput_rxHeld (l : LineId) (x : Output) (s : State) : (setOutput l x s).rxHeld = s.rxHeld := rfl
@[simp] theorem setOutput_rateChange (l : LineId) (x : Output) (s : State) : (setOutput l x s).rateChange = s.rateChange := rfl
@[simp] theorem setOutput_pending (l : LineId) (x : Output) (s : State) : (setOutput l x s).pending = s.pending := rfl
@[simp] theorem classAt_setOutput_frame (l : LineId) (x : Output) (s : State) (k : Cls) : classAt (setOutput l x s) k = classAt s k := rfl
@[simp] theorem channelAt_setOutput_frame (l : LineId) (x : Output) (s : State) (k : ChannelId) : channelAt (setOutput l x s) k = channelAt s k := rfl
@[simp] theorem timerAt_setOutput_frame (l : LineId) (x : Output) (s : State) (k : TimerId) : timerAt (setOutput l x s) k = timerAt s k := rfl
@[simp] theorem entryAt_setOutput_frame (l : LineId) (x : Output) (s : State) (k : EntryId) : entryAt (setOutput l x s) k = entryAt s k := rfl

@[simp] theorem startSending_timebase (f : TxFrame) (s : State) : (startSending f s).timebase = s.timebase := rfl
@[simp] theorem startSending_hardReset (f : TxFrame) (s : State) : (startSending f s).hardReset = s.hardReset := rfl
@[simp] theorem startSending_classes (f : TxFrame) (s : State) : (startSending f s).classes = s.classes := rfl
@[simp] theorem startSending_reserve (f : TxFrame) (s : State) : (startSending f s).reserve = s.reserve := rfl
@[simp] theorem startSending_retransmitTimeout (f : TxFrame) (s : State) : (startSending f s).retransmitTimeout = s.retransmitTimeout := rfl
@[simp] theorem startSending_retryLimit (f : TxFrame) (s : State) : (startSending f s).retryLimit = s.retryLimit := rfl
@[simp] theorem startSending_tx (f : TxFrame) (s : State) : (startSending f s).tx = some { frame := f, ends := s.timebase + frameTime s.rate f } := rfl
@[simp] theorem startSending_channels (f : TxFrame) (s : State) : (startSending f s).channels = s.channels := rfl
@[simp] theorem startSending_inputs (f : TxFrame) (s : State) : (startSending f s).inputs = s.inputs := rfl
@[simp] theorem startSending_timers (f : TxFrame) (s : State) : (startSending f s).timers = s.timers := rfl
@[simp] theorem startSending_entries (f : TxFrame) (s : State) : (startSending f s).entries = s.entries := rfl
@[simp] theorem startSending_outputs (f : TxFrame) (s : State) : (startSending f s).outputs = s.outputs := rfl
@[simp] theorem startSending_link (f : TxFrame) (s : State) : (startSending f s).link = s.link := rfl
@[simp] theorem startSending_session (f : TxFrame) (s : State) : (startSending f s).session = s.session := rfl
@[simp] theorem startSending_silenceDue (f : TxFrame) (s : State) : (startSending f s).silenceDue = s.silenceDue := rfl
@[simp] theorem startSending_silenceLimit (f : TxFrame) (s : State) : (startSending f s).silenceLimit = s.silenceLimit := rfl
@[simp] theorem startSending_notices (f : TxFrame) (s : State) : (startSending f s).notices = s.notices := rfl
@[simp] theorem startSending_attn (f : TxFrame) (s : State) : (startSending f s).attn = s.attn := rfl
@[simp] theorem startSending_pendingReset (f : TxFrame) (s : State) : (startSending f s).pendingReset = s.pendingReset := rfl
@[simp] theorem startSending_requestQueue (f : TxFrame) (s : State) : (startSending f s).requestQueue = s.requestQueue := rfl
@[simp] theorem startSending_replyQueue (f : TxFrame) (s : State) : (startSending f s).replyQueue = s.replyQueue := rfl
@[simp] theorem startSending_replyCache (f : TxFrame) (s : State) : (startSending f s).replyCache = s.replyCache := rfl
@[simp] theorem startSending_rate (f : TxFrame) (s : State) : (startSending f s).rate = s.rate := rfl
@[simp] theorem startSending_rx (f : TxFrame) (s : State) : (startSending f s).rx = s.rx := rfl
@[simp] theorem startSending_candidate (f : TxFrame) (s : State) : (startSending f s).candidate = s.candidate := rfl
@[simp] theorem startSending_gapDue (f : TxFrame) (s : State) : (startSending f s).gapDue = s.gapDue := rfl
@[simp] theorem startSending_discards (f : TxFrame) (s : State) : (startSending f s).discards = s.discards := rfl
@[simp] theorem startSending_rxHeld (f : TxFrame) (s : State) : (startSending f s).rxHeld = s.rxHeld := rfl
@[simp] theorem startSending_rateChange (f : TxFrame) (s : State) : (startSending f s).rateChange = s.rateChange := rfl
@[simp] theorem startSending_pending (f : TxFrame) (s : State) : (startSending f s).pending = s.pending := rfl
@[simp] theorem classAt_startSending_frame (f : TxFrame) (s : State) (k : Cls) : classAt (startSending f s) k = classAt s k := rfl
@[simp] theorem channelAt_startSending_frame (f : TxFrame) (s : State) (k : ChannelId) : channelAt (startSending f s) k = channelAt s k := rfl
@[simp] theorem timerAt_startSending_frame (f : TxFrame) (s : State) (k : TimerId) : timerAt (startSending f s) k = timerAt s k := rfl
@[simp] theorem entryAt_startSending_frame (f : TxFrame) (s : State) (k : EntryId) : entryAt (startSending f s) k = entryAt s k := rfl
@[simp] theorem outputAt_startSending_frame (f : TxFrame) (s : State) (k : LineId) : outputAt (startSending f s) k = outputAt s k := rfl

@[simp] theorem driveAttn_timebase (s : State) : (driveAttn s).timebase = s.timebase := rfl
@[simp] theorem driveAttn_hardReset (s : State) : (driveAttn s).hardReset = s.hardReset := rfl
@[simp] theorem driveAttn_classes (s : State) : (driveAttn s).classes = s.classes := rfl
@[simp] theorem driveAttn_reserve (s : State) : (driveAttn s).reserve = s.reserve := rfl
@[simp] theorem driveAttn_retransmitTimeout (s : State) : (driveAttn s).retransmitTimeout = s.retransmitTimeout := rfl
@[simp] theorem driveAttn_retryLimit (s : State) : (driveAttn s).retryLimit = s.retryLimit := rfl
@[simp] theorem driveAttn_tx (s : State) : (driveAttn s).tx = s.tx := rfl
@[simp] theorem driveAttn_channels (s : State) : (driveAttn s).channels = s.channels := rfl
@[simp] theorem driveAttn_inputs (s : State) : (driveAttn s).inputs = s.inputs := rfl
@[simp] theorem driveAttn_timers (s : State) : (driveAttn s).timers = s.timers := rfl
@[simp] theorem driveAttn_entries (s : State) : (driveAttn s).entries = s.entries := rfl
@[simp] theorem driveAttn_outputs (s : State) : (driveAttn s).outputs = s.outputs := rfl
@[simp] theorem driveAttn_link (s : State) : (driveAttn s).link = s.link := rfl
@[simp] theorem driveAttn_session (s : State) : (driveAttn s).session = s.session := rfl
@[simp] theorem driveAttn_silenceDue (s : State) : (driveAttn s).silenceDue = s.silenceDue := rfl
@[simp] theorem driveAttn_silenceLimit (s : State) : (driveAttn s).silenceLimit = s.silenceLimit := rfl
@[simp] theorem driveAttn_notices (s : State) : (driveAttn s).notices = s.notices := rfl
@[simp] theorem driveAttn_attn (s : State) : (driveAttn s).attn = attnLevel s := rfl
@[simp] theorem driveAttn_pendingReset (s : State) : (driveAttn s).pendingReset = s.pendingReset := rfl
@[simp] theorem driveAttn_requestQueue (s : State) : (driveAttn s).requestQueue = s.requestQueue := rfl
@[simp] theorem driveAttn_replyQueue (s : State) : (driveAttn s).replyQueue = s.replyQueue := rfl
@[simp] theorem driveAttn_replyCache (s : State) : (driveAttn s).replyCache = s.replyCache := rfl
@[simp] theorem driveAttn_rate (s : State) : (driveAttn s).rate = s.rate := rfl
@[simp] theorem driveAttn_rx (s : State) : (driveAttn s).rx = s.rx := rfl
@[simp] theorem driveAttn_candidate (s : State) : (driveAttn s).candidate = s.candidate := rfl
@[simp] theorem driveAttn_gapDue (s : State) : (driveAttn s).gapDue = s.gapDue := rfl
@[simp] theorem driveAttn_discards (s : State) : (driveAttn s).discards = s.discards := rfl
@[simp] theorem driveAttn_rxHeld (s : State) : (driveAttn s).rxHeld = s.rxHeld := rfl
@[simp] theorem driveAttn_rateChange (s : State) : (driveAttn s).rateChange = s.rateChange := rfl
@[simp] theorem driveAttn_pending (s : State) : (driveAttn s).pending = s.pending := rfl
@[simp] theorem classAt_driveAttn_frame (s : State) (k : Cls) : classAt (driveAttn s) k = classAt s k := rfl
@[simp] theorem channelAt_driveAttn_frame (s : State) (k : ChannelId) : channelAt (driveAttn s) k = channelAt s k := rfl
@[simp] theorem timerAt_driveAttn_frame (s : State) (k : TimerId) : timerAt (driveAttn s) k = timerAt s k := rfl
@[simp] theorem entryAt_driveAttn_frame (s : State) (k : EntryId) : entryAt (driveAttn s) k = entryAt s k := rfl
@[simp] theorem outputAt_driveAttn_frame (s : State) (k : LineId) : outputAt (driveAttn s) k = outputAt s k := rfl

@[simp] theorem countDiscard_timebase (s : State) : (countDiscard s).timebase = s.timebase := rfl
@[simp] theorem countDiscard_hardReset (s : State) : (countDiscard s).hardReset = s.hardReset := rfl
@[simp] theorem countDiscard_classes (s : State) : (countDiscard s).classes = s.classes := rfl
@[simp] theorem countDiscard_reserve (s : State) : (countDiscard s).reserve = s.reserve := rfl
@[simp] theorem countDiscard_retransmitTimeout (s : State) : (countDiscard s).retransmitTimeout = s.retransmitTimeout := rfl
@[simp] theorem countDiscard_retryLimit (s : State) : (countDiscard s).retryLimit = s.retryLimit := rfl
@[simp] theorem countDiscard_tx (s : State) : (countDiscard s).tx = s.tx := rfl
@[simp] theorem countDiscard_channels (s : State) : (countDiscard s).channels = s.channels := rfl
@[simp] theorem countDiscard_inputs (s : State) : (countDiscard s).inputs = s.inputs := rfl
@[simp] theorem countDiscard_timers (s : State) : (countDiscard s).timers = s.timers := rfl
@[simp] theorem countDiscard_entries (s : State) : (countDiscard s).entries = s.entries := rfl
@[simp] theorem countDiscard_outputs (s : State) : (countDiscard s).outputs = s.outputs := rfl
@[simp] theorem countDiscard_link (s : State) : (countDiscard s).link = s.link := rfl
@[simp] theorem countDiscard_session (s : State) : (countDiscard s).session = s.session := rfl
@[simp] theorem countDiscard_silenceDue (s : State) : (countDiscard s).silenceDue = s.silenceDue := rfl
@[simp] theorem countDiscard_silenceLimit (s : State) : (countDiscard s).silenceLimit = s.silenceLimit := rfl
@[simp] theorem countDiscard_notices (s : State) : (countDiscard s).notices = s.notices := rfl
@[simp] theorem countDiscard_attn (s : State) : (countDiscard s).attn = s.attn := rfl
@[simp] theorem countDiscard_pendingReset (s : State) : (countDiscard s).pendingReset = s.pendingReset := rfl
@[simp] theorem countDiscard_requestQueue (s : State) : (countDiscard s).requestQueue = s.requestQueue := rfl
@[simp] theorem countDiscard_replyQueue (s : State) : (countDiscard s).replyQueue = s.replyQueue := rfl
@[simp] theorem countDiscard_replyCache (s : State) : (countDiscard s).replyCache = s.replyCache := rfl
@[simp] theorem countDiscard_rate (s : State) : (countDiscard s).rate = s.rate := rfl
@[simp] theorem countDiscard_rx (s : State) : (countDiscard s).rx = s.rx := rfl
@[simp] theorem countDiscard_candidate (s : State) : (countDiscard s).candidate = s.candidate := rfl
@[simp] theorem countDiscard_gapDue (s : State) : (countDiscard s).gapDue = s.gapDue := rfl
@[simp] theorem countDiscard_discards (s : State) : (countDiscard s).discards = satSucc s.discards := rfl
@[simp] theorem countDiscard_rxHeld (s : State) : (countDiscard s).rxHeld = s.rxHeld := rfl
@[simp] theorem countDiscard_rateChange (s : State) : (countDiscard s).rateChange = s.rateChange := rfl
@[simp] theorem countDiscard_pending (s : State) : (countDiscard s).pending = s.pending := rfl
@[simp] theorem classAt_countDiscard_frame (s : State) (k : Cls) : classAt (countDiscard s) k = classAt s k := rfl
@[simp] theorem channelAt_countDiscard_frame (s : State) (k : ChannelId) : channelAt (countDiscard s) k = channelAt s k := rfl
@[simp] theorem timerAt_countDiscard_frame (s : State) (k : TimerId) : timerAt (countDiscard s) k = timerAt s k := rfl
@[simp] theorem entryAt_countDiscard_frame (s : State) (k : EntryId) : entryAt (countDiscard s) k = entryAt s k := rfl
@[simp] theorem outputAt_countDiscard_frame (s : State) (k : LineId) : outputAt (countDiscard s) k = outputAt s k := rfl

end Sys2Proof.Machine
end

