-- ==== Sys2Proof/Laws/Ops.lean ====
section
/-! SUPPORT. What the shared operations can do, said once: the arbiter, the selection of what waits, ATTN, offers, and the frame `event` puts
every command's effect in. -/

namespace Sys2Proof.Machine

open Sys2Proof

/-- A list is empty or has a head. -/
theorem nil_or_cons {α : Type} (l : List α) : l = [] ∨ ∃ a rest, l = a :: rest := by cases l <;> simp

/-- An option is absent or present. -/
theorem none_or_some {α : Type} (o : Option α) : o = none ∨ ∃ a, o = some a := by cases o <;> simp

/-! ### The arbiter -/

@[simp] theorem arbitrate_busy (s : State) (x : Sending) (h : s.tx = some x) : arbitrate s = s := by simp [arbitrate, h]

theorem arbitrate_inReset (s : State) (h : s.hardReset.isSome = true) : arbitrate s = s := by simp [arbitrate, h]

theorem arbitrate_reply (s : State) (r : Reply) (rest : List Reply) (ht : s.tx = none) (hh : s.hardReset = none)
    (hq : s.replyQueue = r :: rest) : arbitrate s = startSending (.reply r) { s with replyQueue := rest } := by
  simp [arbitrate, ht, hh, hq]

theorem arbitrate_notice (s : State) (n : Notice) (rest : List Notice) (ht : s.tx = none) (hh : s.hardReset = none)
    (hq : s.replyQueue = []) (hn : s.notices = n :: rest) :
    arbitrate s = startSending (.notice n) { s with notices := rest } := by
  simp [arbitrate, ht, hh, hq, hn]

theorem arbitrate_class (s : State) (ht : s.tx = none) (hh : s.hardReset = none) (hq : s.replyQueue = []) (hn : s.notices = []) :
    arbitrate s = match offeringClass s with | some c => sendReport c s | none => s := by
  simp [arbitrate, ht, hh, hq, hn] <;> rfl

/-- Everything a selection can do: nothing, or one reply, one notice or one report begins. -/
theorem arbitrate_cases (s : State) :
    arbitrate s = s ∨
    (s.tx = none ∧ s.hardReset = none ∧ ∃ r rest, s.replyQueue = r :: rest ∧
      arbitrate s = startSending (.reply r) { s with replyQueue := rest }) ∨
    (s.tx = none ∧ s.hardReset = none ∧ s.replyQueue = [] ∧ ∃ n rest, s.notices = n :: rest ∧
      arbitrate s = startSending (.notice n) { s with notices := rest }) ∨
    (s.tx = none ∧ s.hardReset = none ∧ s.replyQueue = [] ∧ s.notices = [] ∧ ∃ c, offeringClass s = some c ∧
      arbitrate s = sendReport c s) := by
  by_cases hb : s.tx.isSome || s.hardReset.isSome
  · left; simp [arbitrate, hb]
  · simp at hb
    obtain ⟨ht, hh⟩ := hb
    rcases nil_or_cons s.replyQueue with hq | ⟨r, rest, hq⟩
    · rcases nil_or_cons s.notices with hn | ⟨n, rest, hn⟩
      · have ha := arbitrate_class s ht hh hq hn
        rcases none_or_some (offeringClass s) with ho | ⟨c, ho⟩
        · left; rw [ha, ho]
        · right; right; right; exact ⟨ht, hh, hq, hn, c, ho, by rw [ha, ho]⟩
      · right; right; left; exact ⟨ht, hh, hq, n, rest, hn, arbitrate_notice s n rest ht hh hq hn⟩
    · right; left; exact ⟨ht, hh, r, rest, hq, arbitrate_reply s r rest ht hh hq⟩

/-- The class the arbiter takes offers a frame, and no class before it does (R33). -/
theorem offeringClass_some {s : State} {c : Cls} (h : offeringClass s = some c) :
    offersFrame c s = true ∧ ∀ c' : Cls, c' < c → offersFrame c' s = false := by
  simp only [offeringClass, List.find?_cons] at h
  refine ⟨?_, fun c' hc => ?_⟩
  · split at h
    · cases h; assumption
    split at h
    · cases h; assumption
    split at h
    · cases h; assumption
    split at h
    · cases h; assumption
    · cases h
  · have hb : ∀ b : Bool, b = true ∨ b = false := by decide
    rcases hb (offersFrame 0 s) with h0 | h0 <;> rcases hb (offersFrame 1 s) with h1 | h1 <;>
      rcases hb (offersFrame 2 s) with h2 | h2 <;> rcases hb (offersFrame 3 s) with h3 | h3 <;>
      simp [h0, h1, h2, h3] at h <;> subst h <;> fin_cases c' <;> simp_all [Fin.lt_def]

theorem offeringClass_none {s : State} (h : offeringClass s = none) (c : Cls) : offersFrame c s = false := by
  have : c ∈ ([0, 1, 2, 3] : List Cls) := by fin_cases c <;> simp
  simpa using List.find?_eq_none.mp h c this

/-- A class that offers a frame has the link UP, and either a RESEND frame or no frame and a record unsent (R29, R31). -/
theorem offersFrame_cases {s : State} {c : Cls} (h : offersFrame c s = true) :
    s.link = .up ∧ ((∃ f, (classAt s c).frame = some f ∧ f.state = .resend) ∨
      ((classAt s c).frame = none ∧ (classAt s c).unsent ≠ [])) := by
  simp only [offersFrame, ready, inResend, Bool.or_eq_true, Bool.and_eq_true, beq_iff_eq] at h
  rcases h with ⟨⟨hl, hf⟩, hu⟩ | ⟨hl, hf⟩
  · refine ⟨hl, .inr ⟨by simpa using hf, ?_⟩⟩
    intro he; simp [he] at hu
  · refine ⟨hl, .inl ?_⟩
    split at hf
    · next f hfr => exact ⟨f, hfr, by simpa using hf⟩
    · cases hf

/-- The report a selected class sends: a RESEND frame as it was built, else a new frame (R35, R42). -/
theorem sendReport_resend (s : State) (c : Cls) (f : InFlight) (h : (classAt s c).frame = some f) (hs : f.state = .resend) :
    sendReport c s = startSending (.report s.session c f.seq f.records)
      (setClass c { classAt s c with frame := some { f with state := .sending } } s) := by
  simp [sendReport, inResend, h, hs]

theorem sendReport_build (s : State) (c : Cls) (h : (classAt s c).frame = none) :
    sendReport c s = startSending
      (.report s.session c (classAt s c).nextSeq ((classAt s c).unsent.take (min (classAt s c).unsent.length (classAt s c).frameMax.toNat)))
      (setClass c (buildFrame (classAt s c)) s) := by
  simp [sendReport, inResend, h, buildFrame]

/-- A selected class begins its report. -/
theorem sendReport_busy (c : Cls) (s : State) (h : (∃ f, (classAt s c).frame = some f ∧ f.state = .resend) ∨
    ((classAt s c).frame = none ∧ (classAt s c).unsent ≠ [])) : ∃ x, (sendReport c s).tx = some x := by
  rcases h with ⟨f, hf, hs⟩ | ⟨hf, -⟩
  · rw [sendReport_resend s c f hf hs]; exact ⟨_, rfl⟩
  · rw [sendReport_build s c hf]; exact ⟨_, rfl⟩

theorem sendReport_attn_irrelevant (c : Cls) (s : State) (a : Bool) :
    sendReport c { s with attn := a } = { sendReport c s with attn := a } := by
  have hc : classAt { s with attn := a } c = classAt s c := rfl
  unfold sendReport
  rw [hc]
  rcases none_or_some (if inResend (classAt s c) then classAt s c else buildFrame (classAt s c)).frame with h | ⟨f, h⟩ <;>
    simp only [h] <;> rfl

/-- A selection does not look at ATTN. -/
theorem arbitrate_attn_irrelevant (s : State) (a : Bool) : arbitrate { s with attn := a } = { arbitrate s with attn := a } := by
  rcases none_or_some s.tx with ht | ⟨x, ht⟩
  · rcases none_or_some s.hardReset with hh | ⟨x, hh⟩
    · rcases nil_or_cons s.replyQueue with hq | ⟨r, rest, hq⟩
      · rcases nil_or_cons s.notices with hn | ⟨n, rest, hn⟩
        · rw [arbitrate_class s ht hh hq hn, arbitrate_class { s with attn := a } ht hh hq hn]
          have ho : offeringClass { s with attn := a } = offeringClass s := rfl
          rw [ho]
          rcases none_or_some (offeringClass s) with h | ⟨c, h⟩
          · rw [h]
          · rw [h]; exact sendReport_attn_irrelevant c s a
        · rw [arbitrate_notice s n rest ht hh hq hn, arbitrate_notice { s with attn := a } n rest ht hh hq hn]; rfl
      · rw [arbitrate_reply s r rest ht hh hq, arbitrate_reply { s with attn := a } r rest ht hh hq]; rfl
    · rw [arbitrate_inReset s (by simp [hh]), arbitrate_inReset { s with attn := a } (by simp [hh])]
  · rw [arbitrate_busy s x ht, arbitrate_busy { s with attn := a } x ht]

/-- A selection changes nothing but the transmitter, the two queues it takes from and the classes. -/
theorem arbitrate_frame (s : State) : ∃ tx replies notices classes,
    arbitrate s = { s with tx := tx, replyQueue := replies, notices := notices, classes := classes } := by
  rcases arbitrate_cases s with h | ⟨-, -, r, rest, -, h⟩ | ⟨-, -, -, n, rest, -, h⟩ | ⟨-, -, -, -, c, ho, h⟩
  · exact ⟨s.tx, s.replyQueue, s.notices, s.classes, by rw [h]⟩
  · exact ⟨_, rest, s.notices, s.classes, by rw [h]; rfl⟩
  · exact ⟨_, s.replyQueue, rest, s.classes, by rw [h]; rfl⟩
  · rw [h]
    unfold sendReport
    dsimp only
    split
    · exact ⟨_, s.replyQueue, s.notices, _, rfl⟩
    · exact ⟨s.tx, s.replyQueue, s.notices, s.classes, rfl⟩

@[simp] theorem arbitrate_timebase (s : State) : (arbitrate s).timebase = s.timebase := by
  obtain ⟨_, _, _, _, h⟩ := arbitrate_frame s; rw [h]
@[simp] theorem arbitrate_hardReset (s : State) : (arbitrate s).hardReset = s.hardReset := by
  obtain ⟨_, _, _, _, h⟩ := arbitrate_frame s; rw [h]
@[simp] theorem arbitrate_reserve (s : State) : (arbitrate s).reserve = s.reserve := by
  obtain ⟨_, _, _, _, h⟩ := arbitrate_frame s; rw [h]
@[simp] theorem arbitrate_retransmitTimeout (s : State) : (arbitrate s).retransmitTimeout = s.retransmitTimeout := by
  obtain ⟨_, _, _, _, h⟩ := arbitrate_frame s; rw [h]
@[simp] theorem arbitrate_retryLimit (s : State) : (arbitrate s).retryLimit = s.retryLimit := by
  obtain ⟨_, _, _, _, h⟩ := arbitrate_frame s; rw [h]
@[simp] theorem arbitrate_channels (s : State) : (arbitrate s).channels = s.channels := by
  obtain ⟨_, _, _, _, h⟩ := arbitrate_frame s; rw [h]
@[simp] theorem arbitrate_inputs (s : State) : (arbitrate s).inputs = s.inputs := by
  obtain ⟨_, _, _, _, h⟩ := arbitrate_frame s; rw [h]
@[simp] theorem arbitrate_timers (s : State) : (arbitrate s).timers = s.timers := by
  obtain ⟨_, _, _, _, h⟩ := arbitrate_frame s; rw [h]
@[simp] theorem arbitrate_entries (s : State) : (arbitrate s).entries = s.entries := by
  obtain ⟨_, _, _, _, h⟩ := arbitrate_frame s; rw [h]
@[simp] theorem arbitrate_outputs (s : State) : (arbitrate s).outputs = s.outputs := by
  obtain ⟨_, _, _, _, h⟩ := arbitrate_frame s; rw [h]
@[simp] theorem arbitrate_link (s : State) : (arbitrate s).link = s.link := by
  obtain ⟨_, _, _, _, h⟩ := arbitrate_frame s; rw [h]
@[simp] theorem arbitrate_session (s : State) : (arbitrate s).session = s.session := by
  obtain ⟨_, _, _, _, h⟩ := arbitrate_frame s; rw [h]
@[simp] theorem arbitrate_silenceDue (s : State) : (arbitrate s).silenceDue = s.silenceDue := by
  obtain ⟨_, _, _, _, h⟩ := arbitrate_frame s; rw [h]
@[simp] theorem arbitrate_silenceLimit (s : State) : (arbitrate s).silenceLimit = s.silenceLimit := by
  obtain ⟨_, _, _, _, h⟩ := arbitrate_frame s; rw [h]
@[simp] theorem arbitrate_attn (s : State) : (arbitrate s).attn = s.attn := by
  obtain ⟨_, _, _, _, h⟩ := arbitrate_frame s; rw [h]
@[simp] theorem arbitrate_pendingReset (s : State) : (arbitrate s).pendingReset = s.pendingReset := by
  obtain ⟨_, _, _, _, h⟩ := arbitrate_frame s; rw [h]
@[simp] theorem arbitrate_requestQueue (s : State) : (arbitrate s).requestQueue = s.requestQueue := by
  obtain ⟨_, _, _, _, h⟩ := arbitrate_frame s; rw [h]
@[simp] theorem arbitrate_replyCache (s : State) : (arbitrate s).replyCache = s.replyCache := by
  obtain ⟨_, _, _, _, h⟩ := arbitrate_frame s; rw [h]
@[simp] theorem arbitrate_rate (s : State) : (arbitrate s).rate = s.rate := by
  obtain ⟨_, _, _, _, h⟩ := arbitrate_frame s; rw [h]
@[simp] theorem arbitrate_rx (s : State) : (arbitrate s).rx = s.rx := by
  obtain ⟨_, _, _, _, h⟩ := arbitrate_frame s; rw [h]
@[simp] theorem arbitrate_candidate (s : State) : (arbitrate s).candidate = s.candidate := by
  obtain ⟨_, _, _, _, h⟩ := arbitrate_frame s; rw [h]
@[simp] theorem arbitrate_gapDue (s : State) : (arbitrate s).gapDue = s.gapDue := by
  obtain ⟨_, _, _, _, h⟩ := arbitrate_frame s; rw [h]
@[simp] theorem arbitrate_discards (s : State) : (arbitrate s).discards = s.discards := by
  obtain ⟨_, _, _, _, h⟩ := arbitrate_frame s; rw [h]
@[simp] theorem arbitrate_rxHeld (s : State) : (arbitrate s).rxHeld = s.rxHeld := by
  obtain ⟨_, _, _, _, h⟩ := arbitrate_frame s; rw [h]
@[simp] theorem arbitrate_rateChange (s : State) : (arbitrate s).rateChange = s.rateChange := by
  obtain ⟨_, _, _, _, h⟩ := arbitrate_frame s; rw [h]
@[simp] theorem arbitrate_pending (s : State) : (arbitrate s).pending = s.pending := by
  obtain ⟨_, _, _, _, h⟩ := arbitrate_frame s; rw [h]

/-! ### What waits on an idle transmitter -/

/-- Everything `selectWaiting` can do: nothing, or a waiting reply or notice begins. -/
theorem selectWaiting_cases (s : State) :
    (selectWaiting s = s ∧ (s.tx ≠ none ∨ s.hardReset ≠ none ∨ (s.replyQueue = [] ∧ s.notices = []))) ∨
    (s.tx = none ∧ s.hardReset = none ∧ ∃ r rest, s.replyQueue = r :: rest ∧
      selectWaiting s = startSending (.reply r) { s with replyQueue := rest }) ∨
    (s.tx = none ∧ s.hardReset = none ∧ s.replyQueue = [] ∧ ∃ n rest, s.notices = n :: rest ∧
      selectWaiting s = startSending (.notice n) { s with notices := rest }) := by
  have he : selectWaiting s = s ∨ selectWaiting s = arbitrate s := by
    unfold selectWaiting; split <;> simp
  by_cases hw : s.replyQueue = [] ∧ s.notices = []
  · left; exact ⟨by simp [selectWaiting, hw.1, hw.2], .inr (.inr hw)⟩
  have hs : selectWaiting s = arbitrate s := by
    simp only [selectWaiting, Bool.and_eq_true, List.isEmpty_iff, hw, if_false]
  by_cases ht : s.tx = none
  · by_cases hh : s.hardReset = none
    · rcases nil_or_cons s.replyQueue with hq | ⟨r, rest, hq⟩
      · rcases nil_or_cons s.notices with hn | ⟨n, rest, hn⟩
        · exact absurd ⟨hq, hn⟩ hw
        · right; right; exact ⟨ht, hh, hq, n, rest, hn, hs.trans (arbitrate_notice s n rest ht hh hq hn)⟩
      · right; left; exact ⟨ht, hh, r, rest, hq, hs.trans (arbitrate_reply s r rest ht hh hq)⟩
    · left; exact ⟨by rw [hs]; exact arbitrate_inReset s (Option.isSome_iff_ne_none.mpr hh), .inr (.inl hh)⟩
  · left
    obtain ⟨x, hx⟩ := Option.ne_none_iff_exists'.mp ht
    exact ⟨by rw [hs]; exact arbitrate_busy s x hx, .inl ht⟩

/-- It changes nothing but the transmitter and the queue it takes from. -/
theorem selectWaiting_frame (s : State) : ∃ tx replies notices,
    selectWaiting s = { s with tx := tx, replyQueue := replies, notices := notices } := by
  rcases selectWaiting_cases s with ⟨h, -⟩ | ⟨-, -, r, rest, -, h⟩ | ⟨-, -, -, n, rest, -, h⟩
  · exact ⟨s.tx, s.replyQueue, s.notices, by rw [h]⟩
  · exact ⟨_, rest, s.notices, by rw [h]; rfl⟩
  · exact ⟨_, s.replyQueue, rest, by rw [h]; rfl⟩

@[simp] theorem selectWaiting_timebase (s : State) : (selectWaiting s).timebase = s.timebase := by
  obtain ⟨_, _, _, h⟩ := selectWaiting_frame s; rw [h]
@[simp] theorem selectWaiting_hardReset (s : State) : (selectWaiting s).hardReset = s.hardReset := by
  obtain ⟨_, _, _, h⟩ := selectWaiting_frame s; rw [h]
@[simp] theorem selectWaiting_reserve (s : State) : (selectWaiting s).reserve = s.reserve := by
  obtain ⟨_, _, _, h⟩ := selectWaiting_frame s; rw [h]
@[simp] theorem selectWaiting_retransmitTimeout (s : State) : (selectWaiting s).retransmitTimeout = s.retransmitTimeout := by
  obtain ⟨_, _, _, h⟩ := selectWaiting_frame s; rw [h]
@[simp] theorem selectWaiting_retryLimit (s : State) : (selectWaiting s).retryLimit = s.retryLimit := by
  obtain ⟨_, _, _, h⟩ := selectWaiting_frame s; rw [h]
@[simp] theorem selectWaiting_channels (s : State) : (selectWaiting s).channels = s.channels := by
  obtain ⟨_, _, _, h⟩ := selectWaiting_frame s; rw [h]
@[simp] theorem selectWaiting_inputs (s : State) : (selectWaiting s).inputs = s.inputs := by
  obtain ⟨_, _, _, h⟩ := selectWaiting_frame s; rw [h]
@[simp] theorem selectWaiting_timers (s : State) : (selectWaiting s).timers = s.timers := by
  obtain ⟨_, _, _, h⟩ := selectWaiting_frame s; rw [h]
@[simp] theorem selectWaiting_entries (s : State) : (selectWaiting s).entries = s.entries := by
  obtain ⟨_, _, _, h⟩ := selectWaiting_frame s; rw [h]
@[simp] theorem selectWaiting_outputs (s : State) : (selectWaiting s).outputs = s.outputs := by
  obtain ⟨_, _, _, h⟩ := selectWaiting_frame s; rw [h]
@[simp] theorem selectWaiting_link (s : State) : (selectWaiting s).link = s.link := by
  obtain ⟨_, _, _, h⟩ := selectWaiting_frame s; rw [h]
@[simp] theorem selectWaiting_session (s : State) : (selectWaiting s).session = s.session := by
  obtain ⟨_, _, _, h⟩ := selectWaiting_frame s; rw [h]
@[simp] theorem selectWaiting_silenceDue (s : State) : (selectWaiting s).silenceDue = s.silenceDue := by
  obtain ⟨_, _, _, h⟩ := selectWaiting_frame s; rw [h]
@[simp] theorem selectWaiting_silenceLimit (s : State) : (selectWaiting s).silenceLimit = s.silenceLimit := by
  obtain ⟨_, _, _, h⟩ := selectWaiting_frame s; rw [h]
@[simp] theorem selectWaiting_attn (s : State) : (selectWaiting s).attn = s.attn := by
  obtain ⟨_, _, _, h⟩ := selectWaiting_frame s; rw [h]
@[simp] theorem selectWaiting_pendingReset (s : State) : (selectWaiting s).pendingReset = s.pendingReset := by
  obtain ⟨_, _, _, h⟩ := selectWaiting_frame s; rw [h]
@[simp] theorem selectWaiting_requestQueue (s : State) : (selectWaiting s).requestQueue = s.requestQueue := by
  obtain ⟨_, _, _, h⟩ := selectWaiting_frame s; rw [h]
@[simp] theorem selectWaiting_replyCache (s : State) : (selectWaiting s).replyCache = s.replyCache := by
  obtain ⟨_, _, _, h⟩ := selectWaiting_frame s; rw [h]
@[simp] theorem selectWaiting_rate (s : State) : (selectWaiting s).rate = s.rate := by
  obtain ⟨_, _, _, h⟩ := selectWaiting_frame s; rw [h]
@[simp] theorem selectWaiting_rx (s : State) : (selectWaiting s).rx = s.rx := by
  obtain ⟨_, _, _, h⟩ := selectWaiting_frame s; rw [h]
@[simp] theorem selectWaiting_candidate (s : State) : (selectWaiting s).candidate = s.candidate := by
  obtain ⟨_, _, _, h⟩ := selectWaiting_frame s; rw [h]
@[simp] theorem selectWaiting_gapDue (s : State) : (selectWaiting s).gapDue = s.gapDue := by
  obtain ⟨_, _, _, h⟩ := selectWaiting_frame s; rw [h]
@[simp] theorem selectWaiting_discards (s : State) : (selectWaiting s).discards = s.discards := by
  obtain ⟨_, _, _, h⟩ := selectWaiting_frame s; rw [h]
@[simp] theorem selectWaiting_rxHeld (s : State) : (selectWaiting s).rxHeld = s.rxHeld := by
  obtain ⟨_, _, _, h⟩ := selectWaiting_frame s; rw [h]
@[simp] theorem selectWaiting_rateChange (s : State) : (selectWaiting s).rateChange = s.rateChange := by
  obtain ⟨_, _, _, h⟩ := selectWaiting_frame s; rw [h]
@[simp] theorem selectWaiting_pending (s : State) : (selectWaiting s).pending = s.pending := by
  obtain ⟨_, _, _, h⟩ := selectWaiting_frame s; rw [h]
@[simp] theorem selectWaiting_classes (s : State) : (selectWaiting s).classes = s.classes := by
  obtain ⟨_, _, _, h⟩ := selectWaiting_frame s; rw [h]
@[simp] theorem classAt_selectWaiting (s : State) (k : Cls) : classAt (selectWaiting s) k = classAt s k := by simp [classAt]
@[simp] theorem channelAt_selectWaiting (s : State) (k : ChannelId) : channelAt (selectWaiting s) k = channelAt s k := by simp [channelAt]
@[simp] theorem channelAt_arbitrate (s : State) (k : ChannelId) : channelAt (arbitrate s) k = channelAt s k := by simp [channelAt]
@[simp] theorem timerAt_selectWaiting (s : State) (k : TimerId) : timerAt (selectWaiting s) k = timerAt s k := by simp [timerAt]
@[simp] theorem timerAt_arbitrate (s : State) (k : TimerId) : timerAt (arbitrate s) k = timerAt s k := by simp [timerAt]
@[simp] theorem entryAt_selectWaiting (s : State) (k : EntryId) : entryAt (selectWaiting s) k = entryAt s k := by simp [entryAt]
@[simp] theorem entryAt_arbitrate (s : State) (k : EntryId) : entryAt (arbitrate s) k = entryAt s k := by simp [entryAt]
@[simp] theorem outputAt_selectWaiting (s : State) (k : LineId) : outputAt (selectWaiting s) k = outputAt s k := by simp [outputAt]
@[simp] theorem outputAt_arbitrate (s : State) (k : LineId) : outputAt (arbitrate s) k = outputAt s k := by simp [outputAt]

/-! ### Selection after an event -/

theorem selectNext_eq (s : State) : selectNext s = { arbitrate s with attn := attnLevel (arbitrate s) } := rfl

theorem selectNext_busy (s : State) (x : Sending) (h : s.tx = some x) : selectNext s = driveAttn s := by simp [selectNext, h]

theorem selectNext_reply (s : State) (r : Reply) (rest : List Reply) (ht : s.tx = none) (hh : s.hardReset = none)
    (hq : s.replyQueue = r :: rest) : selectNext s = driveAttn (startSending (.reply r) { s with replyQueue := rest }) := by
  simp [selectNext, arbitrate_reply s r rest ht hh hq]

theorem selectNext_notice (s : State) (n : Notice) (rest : List Notice) (ht : s.tx = none) (hh : s.hardReset = none)
    (hq : s.replyQueue = []) (hn : s.notices = n :: rest) :
    selectNext s = driveAttn (startSending (.notice n) { s with notices := rest }) := by
  simp [selectNext, arbitrate_notice s n rest ht hh hq hn]

/-- An effect that neither reads nor changes the transmitter and its queues meets the selection of what waits in either order. -/
theorem selectNext_selectWaiting {f : State → State} (s : State)
    (hf : ∀ tx replies notices, f { s with tx := tx, replyQueue := replies, notices := notices } =
      { f s with tx := tx, replyQueue := replies, notices := notices })
    (ht : (f s).tx = s.tx) (hr : (f s).replyQueue = s.replyQueue) (hn : (f s).notices = s.notices)
    (hh : (f s).hardReset = s.hardReset) (hb : (f s).timebase = s.timebase) (hl : (f s).rate = s.rate) :
    selectNext (f (selectWaiting s)) = selectNext (f s) := by
  rcases selectWaiting_cases s with ⟨h, -⟩ | ⟨htx, hhr, r, rest, hq, h⟩ | ⟨htx, hhr, hq, n, rest, hno, h⟩
  · rw [h]
  · rw [h, selectNext_reply (f s) r rest (ht.trans htx) (hh.trans hhr) (hr.trans hq)]
    have := hf (some { frame := .reply r, ends := s.timebase + frameTime s.rate (.reply r) }) rest s.notices
    have e : startSending (.reply r) { s with replyQueue := rest } =
      { s with tx := some { frame := .reply r, ends := s.timebase + frameTime s.rate (.reply r) }, replyQueue := rest,
               notices := s.notices } := rfl
    rw [e, this, selectNext_busy _ _ rfl]
    simp only [startSending, hb, hl, ← hn]
  · rw [h, selectNext_notice (f s) n rest (ht.trans htx) (hh.trans hhr) (hr.trans hq) (hn.trans hno)]
    have := hf (some { frame := .notice n, ends := s.timebase + frameTime s.rate (.notice n) }) s.replyQueue rest
    have e : startSending (.notice n) { s with notices := rest } =
      { s with tx := some { frame := .notice n, ends := s.timebase + frameTime s.rate (.notice n) }, replyQueue := s.replyQueue,
               notices := rest } := rfl
    rw [e, this, selectNext_busy _ _ rfl]
    simp only [startSending, hb, hl, ← hr]

@[simp] theorem selectNext_requestQueue (s : State) : (selectNext s).requestQueue = s.requestQueue := by simp [selectNext]
@[simp] theorem selectNext_pendingReset (s : State) : (selectNext s).pendingReset = s.pendingReset := by simp [selectNext]
@[simp] theorem selectNext_hardReset (s : State) : (selectNext s).hardReset = s.hardReset := by simp [selectNext]

/-! ### What follows every event (R158, R162) -/

/-- While the handler may not take, it takes nothing. -/
theorem takeWaiting_stop (n : Nat) (s : State) (h : canTake s = false) : takeWaiting n s = s := by
  cases n <;> simp [takeWaiting, h]

/-- With no request waiting the handler takes nothing. -/
theorem canTake_nil (s : State) (h : s.requestQueue = []) : canTake s = false := by simp [canTake, h]

theorem canTake_iff (s : State) :
    canTake s = true ↔ s.requestQueue ≠ [] ∧ s.replyQueue.length < 4 ∧ s.pendingReset = none := by
  simp only [canTake, Bool.and_eq_true, Bool.not_eq_true', List.isEmpty_eq_false_iff, decide_eq_true_eq,
    Option.isNone_iff_eq_none, and_assoc]
  rfl

/-- An event after which the handler may not take ends with the selection. -/
theorem settle_stop (s : State) (h : canTake (selectNext s) = false) : settle s = selectNext s := takeWaiting_stop _ _ h

theorem settle_nil (s : State) (h : s.requestQueue = []) : settle s = selectNext s :=
  settle_stop s (canTake_nil _ (by simpa using h))

/-- What is selected stays selected: a second selection finds the transmitter BUSY or nothing to offer. -/
theorem arbitrate_idem (s : State) (a : Bool) : arbitrate { arbitrate s with attn := a } = { arbitrate s with attn := a } := by
  rcases arbitrate_cases s with h | ⟨-, -, r, rest, -, h⟩ | ⟨-, -, -, n, rest, -, h⟩ | ⟨-, -, -, -, c, ho, h⟩
  · rw [h, show arbitrate { s with attn := a } = { arbitrate s with attn := a } from arbitrate_attn_irrelevant s a, h]
  · rw [h]; exact arbitrate_busy _ _ rfl
  · rw [h]; exact arbitrate_busy _ _ rfl
  · obtain ⟨x, hx⟩ := sendReport_busy c s (offersFrame_cases (offeringClass_some ho).1).2
    rw [h]; exact arbitrate_busy _ x hx

theorem selectNext_idem (s : State) : selectNext (selectNext s) = selectNext s := by
  simp only [selectNext_eq, arbitrate_idem]
  rfl

/-- Takes end with a selection, so a further selection changes nothing. -/
theorem takeWaiting_selected (n : Nat) (s : State) (h : selectNext s = s) : selectNext (takeWaiting n s) = takeWaiting n s := by
  induction n generalizing s with
  | zero => exact h
  | succ n ih =>
    unfold takeWaiting
    split
    · exact ih _ (selectNext_idem _)
    · exact h

/-- Events that agree after the selection agree. -/
theorem settle_congr {s t : State} (h : selectNext s = selectNext t) : settle s = settle t := by simp only [settle, h]

/-- An effect that neither reads nor changes the transmitter and its queues meets the selection of what waits in either order. -/
theorem settle_selectWaiting {f : State → State} (s : State)
    (hf : ∀ tx replies notices, f { s with tx := tx, replyQueue := replies, notices := notices } =
      { f s with tx := tx, replyQueue := replies, notices := notices })
    (ht : (f s).tx = s.tx) (hr : (f s).replyQueue = s.replyQueue) (hn : (f s).notices = s.notices)
    (hh : (f s).hardReset = s.hardReset) (hb : (f s).timebase = s.timebase) (hl : (f s).rate = s.rate) :
    settle (f (selectWaiting s)) = settle (f s) :=
  settle_congr (selectNext_selectWaiting s hf ht hr hn hh hb hl)

/-- An event, outside a hard reset. -/
theorem event_eq (f : State → State) (s : State) (h : s.hardReset = none) : event f s = .next (settle (f (selectWaiting s))) := by
  simp [event, h]

/-- An event while a hard reset is in progress. -/
theorem event_hardReset (f : State → State) (s : State) (c : HardCause) (h : s.hardReset = some c) : event f s = .next s := by
  simp [event, h]

/-- An event whose effect does not meet the transmitter and its queues. -/
theorem event_eq_settle (f : State → State) (s : State) (h : s.hardReset = none)
    (hf : ∀ tx replies notices, f { s with tx := tx, replyQueue := replies, notices := notices } =
      { f s with tx := tx, replyQueue := replies, notices := notices })
    (ht : (f s).tx = s.tx) (hr : (f s).replyQueue = s.replyQueue) (hn : (f s).notices = s.notices)
    (hh : (f s).hardReset = s.hardReset) (hb : (f s).timebase = s.timebase) (hl : (f s).rate = s.rate) :
    event f s = .next (settle (f s)) := by
  rw [event_eq f s h, settle_selectWaiting s hf ht hr hn hh hb hl]

/-! ### Offers -/

/-- Everything an offer can do. -/
theorem offer_cases (c : Cls) (o : Content) (s : State) :
    (admits c s = true ∧ offer c o s = arbitrate (admitRecord c o s)) ∨ (admits c s = false ∧ offer c o s = refuseOffer c s) := by
  unfold offer
  by_cases h : admits c s
  · exact .inl ⟨h, by simp [h]⟩
  · exact .inr ⟨by simpa using h, by simp [h]⟩

/-- The admission test in numbers (R10). -/
theorem admits_iff (c : Cls) (s : State) :
    admits c s = true ↔ occupancy (classAt s c) < (classAt s c).limit.toNat ∧
      (if c = 0 then 0 < freeCount s else s.reserve.toNat < freeCount s) := by
  unfold admits
  split <;> simp_all

/-- An offer changes nothing but the classes, the transmitter and the two queues it takes from. -/
theorem offer_frame (c : Cls) (o : Content) (s : State) : ∃ tx replies notices classes,
    offer c o s = { s with tx := tx, replyQueue := replies, notices := notices, classes := classes } := by
  rcases offer_cases c o s with ⟨-, h⟩ | ⟨-, h⟩
  · obtain ⟨tx, rq, ns, cl, ha⟩ := arbitrate_frame (admitRecord c o s)
    exact ⟨tx, rq, ns, cl, by rw [h, ha]; rfl⟩
  · exact ⟨s.tx, s.replyQueue, s.notices, _, by rw [h]; rfl⟩

@[simp] theorem offer_timebase (c : Cls) (o : Content) (s : State) : (offer c o s).timebase = s.timebase := by
  obtain ⟨_, _, _, _, h⟩ := offer_frame c o s; rw [h]
@[simp] theorem offer_hardReset (c : Cls) (o : Content) (s : State) : (offer c o s).hardReset = s.hardReset := by
  obtain ⟨_, _, _, _, h⟩ := offer_frame c o s; rw [h]
@[simp] theorem offer_reserve (c : Cls) (o : Content) (s : State) : (offer c o s).reserve = s.reserve := by
  obtain ⟨_, _, _, _, h⟩ := offer_frame c o s; rw [h]
@[simp] theorem offer_retransmitTimeout (c : Cls) (o : Content) (s : State) : (offer c o s).retransmitTimeout = s.retransmitTimeout := by
  obtain ⟨_, _, _, _, h⟩ := offer_frame c o s; rw [h]
@[simp] theorem offer_retryLimit (c : Cls) (o : Content) (s : State) : (offer c o s).retryLimit = s.retryLimit := by
  obtain ⟨_, _, _, _, h⟩ := offer_frame c o s; rw [h]
@[simp] theorem offer_channels (c : Cls) (o : Content) (s : State) : (offer c o s).channels = s.channels := by
  obtain ⟨_, _, _, _, h⟩ := offer_frame c o s; rw [h]
@[simp] theorem offer_inputs (c : Cls) (o : Content) (s : State) : (offer c o s).inputs = s.inputs := by
  obtain ⟨_, _, _, _, h⟩ := offer_frame c o s; rw [h]
@[simp] theorem offer_timers (c : Cls) (o : Content) (s : State) : (offer c o s).timers = s.timers := by
  obtain ⟨_, _, _, _, h⟩ := offer_frame c o s; rw [h]
@[simp] theorem offer_entries (c : Cls) (o : Content) (s : State) : (offer c o s).entries = s.entries := by
  obtain ⟨_, _, _, _, h⟩ := offer_frame c o s; rw [h]
@[simp] theorem offer_outputs (c : Cls) (o : Content) (s : State) : (offer c o s).outputs = s.outputs := by
  obtain ⟨_, _, _, _, h⟩ := offer_frame c o s; rw [h]
@[simp] theorem offer_link (c : Cls) (o : Content) (s : State) : (offer c o s).link = s.link := by
  obtain ⟨_, _, _, _, h⟩ := offer_frame c o s; rw [h]
@[simp] theorem offer_session (c : Cls) (o : Content) (s : State) : (offer c o s).session = s.session := by
  obtain ⟨_, _, _, _, h⟩ := offer_frame c o s; rw [h]
@[simp] theorem offer_silenceDue (c : Cls) (o : Content) (s : State) : (offer c o s).silenceDue = s.silenceDue := by
  obtain ⟨_, _, _, _, h⟩ := offer_frame c o s; rw [h]
@[simp] theorem offer_silenceLimit (c : Cls) (o : Content) (s : State) : (offer c o s).silenceLimit = s.silenceLimit := by
  obtain ⟨_, _, _, _, h⟩ := offer_frame c o s; rw [h]
@[simp] theorem offer_attn (c : Cls) (o : Content) (s : State) : (offer c o s).attn = s.attn := by
  obtain ⟨_, _, _, _, h⟩ := offer_frame c o s; rw [h]
@[simp] theorem offer_pendingReset (c : Cls) (o : Content) (s : State) : (offer c o s).pendingReset = s.pendingReset := by
  obtain ⟨_, _, _, _, h⟩ := offer_frame c o s; rw [h]
@[simp] theorem offer_requestQueue (c : Cls) (o : Content) (s : State) : (offer c o s).requestQueue = s.requestQueue := by
  obtain ⟨_, _, _, _, h⟩ := offer_frame c o s; rw [h]
@[simp] theorem offer_replyCache (c : Cls) (o : Content) (s : State) : (offer c o s).replyCache = s.replyCache := by
  obtain ⟨_, _, _, _, h⟩ := offer_frame c o s; rw [h]
@[simp] theorem offer_rate (c : Cls) (o : Content) (s : State) : (offer c o s).rate = s.rate := by
  obtain ⟨_, _, _, _, h⟩ := offer_frame c o s; rw [h]
@[simp] theorem offer_rx (c : Cls) (o : Content) (s : State) : (offer c o s).rx = s.rx := by
  obtain ⟨_, _, _, _, h⟩ := offer_frame c o s; rw [h]
@[simp] theorem offer_candidate (c : Cls) (o : Content) (s : State) : (offer c o s).candidate = s.candidate := by
  obtain ⟨_, _, _, _, h⟩ := offer_frame c o s; rw [h]
@[simp] theorem offer_gapDue (c : Cls) (o : Content) (s : State) : (offer c o s).gapDue = s.gapDue := by
  obtain ⟨_, _, _, _, h⟩ := offer_frame c o s; rw [h]
@[simp] theorem offer_discards (c : Cls) (o : Content) (s : State) : (offer c o s).discards = s.discards := by
  obtain ⟨_, _, _, _, h⟩ := offer_frame c o s; rw [h]
@[simp] theorem offer_rxHeld (c : Cls) (o : Content) (s : State) : (offer c o s).rxHeld = s.rxHeld := by
  obtain ⟨_, _, _, _, h⟩ := offer_frame c o s; rw [h]
@[simp] theorem offer_rateChange (c : Cls) (o : Content) (s : State) : (offer c o s).rateChange = s.rateChange := by
  obtain ⟨_, _, _, _, h⟩ := offer_frame c o s; rw [h]
@[simp] theorem offer_pending (c : Cls) (o : Content) (s : State) : (offer c o s).pending = s.pending := by
  obtain ⟨_, _, _, _, h⟩ := offer_frame c o s; rw [h]
@[simp] theorem channelAt_offer (c : Cls) (o : Content) (s : State) (k : ChannelId) : channelAt (offer c o s) k = channelAt s k := by simp [channelAt]
@[simp] theorem timerAt_offer (c : Cls) (o : Content) (s : State) (k : TimerId) : timerAt (offer c o s) k = timerAt s k := by simp [timerAt]
@[simp] theorem entryAt_offer (c : Cls) (o : Content) (s : State) (k : EntryId) : entryAt (offer c o s) k = entryAt s k := by simp [entryAt]
@[simp] theorem outputAt_offer (c : Cls) (o : Content) (s : State) (k : LineId) : outputAt (offer c o s) k = outputAt s k := by simp [outputAt]

end Sys2Proof.Machine
end

