-- ==== Sys2Proof/Laws/PerInstr.lean ====
section
/-! SUPPORT. One lemma per command: a well-formed command that is a request is carried by a frame body of 3 to 250 bytes (R180). -/

open Sys2Proof Sys2Proof.Machine

/-- R180: the request of a well-formed command fits a frame body. -/
def Sys2Proof.Laws.FrameFits.Statement (i : Instr) : Prop :=
  i.wellFormed = true → ∀ r : Request, requestOf i = some r → 3 ≤ (requestBody r).length ∧ (requestBody r).length ≤ 250

/-- A list of operations, six bytes each. -/
theorem Sys2Proof.Laws.outOpBytes_length (l : List OutOpBytes) : ((l.map outOpBytes).flatten).length = 6 * l.length := by
  induction l with
  | nil => rfl
  | cons b l ih => simp only [List.map_cons, List.flatten_cons, List.length_append, ih, List.length_cons, outOpBytes, bytes24]; simp; omega

/-- A list of actions, six bytes each. -/
theorem Sys2Proof.Laws.actionParamBytes_length (l : List ActionBytes) : ((l.map actionParamBytes).flatten).length = 6 * l.length := by
  induction l with
  | nil => rfl
  | cons b l ih => simp only [List.map_cons, List.flatten_cons, List.length_append, ih, List.length_cons, actionParamBytes]; simp; omega

/-- A request of at most 247 parameter bytes fits. -/
theorem Sys2Proof.Laws.fits_of_params (r : Request) (h : r.params.length ≤ 247) :
    3 ≤ (requestBody r).length ∧ (requestBody r).length ≤ 250 := by
  simp only [requestBody, List.length_cons]; omega

theorem Sys2Proof.Laws.FrameFits.hello (tag : Byte) : Sys2Proof.Laws.FrameFits.Statement (.hello tag) := by
  intro _ r h; cases h; exact Sys2Proof.Laws.fits_of_params _ (Nat.le_of_ble_eq_true rfl)

theorem Sys2Proof.Laws.FrameFits.reset (tag scope : Byte) : Sys2Proof.Laws.FrameFits.Statement (.reset tag scope) := by
  intro _ r h; cases h; exact Sys2Proof.Laws.fits_of_params _ (Nat.le_of_ble_eq_true rfl)

theorem Sys2Proof.Laws.FrameFits.linkCfg (tag rate timeout retryLimit silenceLimit : Byte) :
    Sys2Proof.Laws.FrameFits.Statement (.linkCfg tag rate timeout retryLimit silenceLimit) := by
  intro _ r h; cases h; exact Sys2Proof.Laws.fits_of_params _ (Nat.le_of_ble_eq_true rfl)

theorem Sys2Proof.Laws.FrameFits.linkRead (tag clear : Byte) : Sys2Proof.Laws.FrameFits.Statement (.linkRead tag clear) := by
  intro _ r h; cases h; exact Sys2Proof.Laws.fits_of_params _ (Nat.le_of_ble_eq_true rfl)

theorem Sys2Proof.Laws.FrameFits.quiet (tag wake : Byte) : Sys2Proof.Laws.FrameFits.Statement (.quiet tag wake) := by
  intro _ r h; cases h; exact Sys2Proof.Laws.fits_of_params _ (Nat.le_of_ble_eq_true rfl)

theorem Sys2Proof.Laws.FrameFits.resume (tag : Byte) : Sys2Proof.Laws.FrameFits.Statement (.resume tag) := by
  intro _ r h; cases h; exact Sys2Proof.Laws.fits_of_params _ (Nat.le_of_ble_eq_true rfl)

theorem Sys2Proof.Laws.FrameFits.timeRead (tag : Byte) : Sys2Proof.Laws.FrameFits.Statement (.timeRead tag) := by
  intro _ r h; cases h; exact Sys2Proof.Laws.fits_of_params _ (Nat.le_of_ble_eq_true rfl)

theorem Sys2Proof.Laws.FrameFits.chanCfg (tag channel mode select interval filterCount report cls : Byte) (threshold : Word16) :
    Sys2Proof.Laws.FrameFits.Statement (.chanCfg tag channel mode select interval filterCount report cls threshold) := by
  intro _ r h; cases h; exact Sys2Proof.Laws.fits_of_params _ (Nat.le_of_ble_eq_true rfl)

theorem Sys2Proof.Laws.FrameFits.chanCtlEnable (tag : Byte) (mask : Word16) :
    Sys2Proof.Laws.FrameFits.Statement (.chanCtlEnable tag mask) := by
  intro _ r h; cases h; exact Sys2Proof.Laws.fits_of_params _ (Nat.le_of_ble_eq_true rfl)

theorem Sys2Proof.Laws.FrameFits.chanCtlDisable (tag : Byte) (mask : Word16) :
    Sys2Proof.Laws.FrameFits.Statement (.chanCtlDisable tag mask) := by
  intro _ r h; cases h; exact Sys2Proof.Laws.fits_of_params _ (Nat.le_of_ble_eq_true rfl)

theorem Sys2Proof.Laws.FrameFits.chanCtlArm (tag : Byte) (mask : Word16) : Sys2Proof.Laws.FrameFits.Statement (.chanCtlArm tag mask) := by
  intro _ r h; cases h; exact Sys2Proof.Laws.fits_of_params _ (Nat.le_of_ble_eq_true rfl)

theorem Sys2Proof.Laws.FrameFits.chanCtlDisarm (tag : Byte) (mask : Word16) :
    Sys2Proof.Laws.FrameFits.Statement (.chanCtlDisarm tag mask) := by
  intro _ r h; cases h; exact Sys2Proof.Laws.fits_of_params _ (Nat.le_of_ble_eq_true rfl)

theorem Sys2Proof.Laws.FrameFits.chanCtlClearSeen (tag : Byte) (mask : Word16) :
    Sys2Proof.Laws.FrameFits.Statement (.chanCtlClearSeen tag mask) := by
  intro _ r h; cases h; exact Sys2Proof.Laws.fits_of_params _ (Nat.le_of_ble_eq_true rfl)

theorem Sys2Proof.Laws.FrameFits.chanRead (tag channel : Byte) : Sys2Proof.Laws.FrameFits.Statement (.chanRead tag channel) := by
  intro _ r h; cases h; exact Sys2Proof.Laws.fits_of_params _ (Nat.le_of_ble_eq_true rfl)

theorem Sys2Proof.Laws.FrameFits.classCfg (tag cls limit batchMin batchHold frameMax reserve : Byte) :
    Sys2Proof.Laws.FrameFits.Statement (.classCfg tag cls limit batchMin batchHold frameMax reserve) := by
  intro _ r h; cases h; exact Sys2Proof.Laws.fits_of_params _ (Nat.le_of_ble_eq_true rfl)

theorem Sys2Proof.Laws.FrameFits.classRead (tag cls : Byte) : Sys2Proof.Laws.FrameFits.Statement (.classRead tag cls) := by
  intro _ r h; cases h; exact Sys2Proof.Laws.fits_of_params _ (Nat.le_of_ble_eq_true rfl)

theorem Sys2Proof.Laws.FrameFits.flush (tag cls : Byte) : Sys2Proof.Laws.FrameFits.Statement (.flush tag cls) := by
  intro _ r h; cases h; exact Sys2Proof.Laws.fits_of_params _ (Nat.le_of_ble_eq_true rfl)

theorem Sys2Proof.Laws.FrameFits.timerCfg (tag timer mode : Byte) (period : Word24) (report cls : Byte) :
    Sys2Proof.Laws.FrameFits.Statement (.timerCfg tag timer mode period report cls) := by
  intro _ r h; cases h; exact Sys2Proof.Laws.fits_of_params _ (Nat.le_of_ble_eq_true rfl)

theorem Sys2Proof.Laws.FrameFits.timerCtlStart (tag mask : Byte) : Sys2Proof.Laws.FrameFits.Statement (.timerCtlStart tag mask) := by
  intro _ r h; cases h; exact Sys2Proof.Laws.fits_of_params _ (Nat.le_of_ble_eq_true rfl)

theorem Sys2Proof.Laws.FrameFits.timerCtlStop (tag mask : Byte) : Sys2Proof.Laws.FrameFits.Statement (.timerCtlStop tag mask) := by
  intro _ r h; cases h; exact Sys2Proof.Laws.fits_of_params _ (Nat.le_of_ble_eq_true rfl)

theorem Sys2Proof.Laws.FrameFits.timerRead (tag timer : Byte) : Sys2Proof.Laws.FrameFits.Statement (.timerRead tag timer) := by
  intro _ r h; cases h; exact Sys2Proof.Laws.fits_of_params _ (Nat.le_of_ble_eq_true rfl)

theorem Sys2Proof.Laws.FrameFits.reactLoad (tag entry sourceKind sourceIndex qualifier : Byte)
    (width : Word24) (fireLimit doneClass reportDone : Byte) (actions : List ActionBytes) :
    Sys2Proof.Laws.FrameFits.Statement (.reactLoad tag entry sourceKind sourceIndex qualifier width fireLimit doneClass reportDone actions) := by
  intro hw r h
  cases h
  apply Sys2Proof.Laws.fits_of_params
  have : 1 ≤ actions.length ∧ actions.length ≤ 4 := by simpa [Instr.wellFormed] using hw
  simp only [reactLoadRequest, List.length_append, List.length_cons, List.length_nil, Sys2Proof.Laws.actionParamBytes_length, bytes24]; omega

theorem Sys2Proof.Laws.FrameFits.reactCtlArm (tag : Byte) (mask : Word16) :
    Sys2Proof.Laws.FrameFits.Statement (.reactCtlArm tag mask) := by
  intro _ r h; cases h; exact Sys2Proof.Laws.fits_of_params _ (Nat.le_of_ble_eq_true rfl)

theorem Sys2Proof.Laws.FrameFits.reactCtlDisarm (tag : Byte) (mask : Word16) :
    Sys2Proof.Laws.FrameFits.Statement (.reactCtlDisarm tag mask) := by
  intro _ r h; cases h; exact Sys2Proof.Laws.fits_of_params _ (Nat.le_of_ble_eq_true rfl)

theorem Sys2Proof.Laws.FrameFits.reactCtlClear (tag : Byte) (mask : Word16) :
    Sys2Proof.Laws.FrameFits.Statement (.reactCtlClear tag mask) := by
  intro _ r h; cases h; exact Sys2Proof.Laws.fits_of_params _ (Nat.le_of_ble_eq_true rfl)

theorem Sys2Proof.Laws.FrameFits.reactRead (tag entry : Byte) : Sys2Proof.Laws.FrameFits.Statement (.reactRead tag entry) := by
  intro _ r h; cases h; exact Sys2Proof.Laws.fits_of_params _ (Nat.le_of_ble_eq_true rfl)

theorem Sys2Proof.Laws.FrameFits.outWriteSet (tag line level : Byte) (duration : Word24) (rest : List OutOpBytes) :
    Sys2Proof.Laws.FrameFits.Statement (.outWriteSet tag line level duration rest) := by
  intro hw r h
  cases h
  apply Sys2Proof.Laws.fits_of_params
  have : rest.length ≤ 7 := by simpa [Instr.wellFormed] using hw
  simp only [outWriteRequest, List.length_cons, Sys2Proof.Laws.outOpBytes_length]; omega

theorem Sys2Proof.Laws.FrameFits.outWriteToggle (tag line level : Byte) (duration : Word24) (rest : List OutOpBytes) :
    Sys2Proof.Laws.FrameFits.Statement (.outWriteToggle tag line level duration rest) := by
  intro hw r h
  cases h
  apply Sys2Proof.Laws.fits_of_params
  have : rest.length ≤ 7 := by simpa [Instr.wellFormed] using hw
  simp only [outWriteRequest, List.length_cons, Sys2Proof.Laws.outOpBytes_length]; omega

theorem Sys2Proof.Laws.FrameFits.outWritePulse (tag line level : Byte) (duration : Word24) (rest : List OutOpBytes) :
    Sys2Proof.Laws.FrameFits.Statement (.outWritePulse tag line level duration rest) := by
  intro hw r h
  cases h
  apply Sys2Proof.Laws.fits_of_params
  have : rest.length ≤ 7 := by simpa [Instr.wellFormed] using hw
  simp only [outWriteRequest, List.length_cons, Sys2Proof.Laws.outOpBytes_length]; omega

theorem Sys2Proof.Laws.FrameFits.outCfg (tag mask policy safeLevel : Byte) :
    Sys2Proof.Laws.FrameFits.Statement (.outCfg tag mask policy safeLevel) := by
  intro _ r h; cases h; exact Sys2Proof.Laws.fits_of_params _ (Nat.le_of_ble_eq_true rfl)

theorem Sys2Proof.Laws.FrameFits.outRead (tag : Byte) : Sys2Proof.Laws.FrameFits.Statement (.outRead tag) := by
  intro _ r h; cases h; exact Sys2Proof.Laws.fits_of_params _ (Nat.le_of_ble_eq_true rfl)

theorem Sys2Proof.Laws.FrameFits.unknownCodeRequest (tag code : Byte) (params : List Byte) :
    Sys2Proof.Laws.FrameFits.Statement (.unknownCodeRequest tag code params) := by
  intro hw r h
  simp only [requestOf] at h
  split at h
  · cases h
  · cases h
    apply Sys2Proof.Laws.fits_of_params
    have := hw
    simp only [Instr.wellFormed, bodyFits, Bool.and_eq_true, decide_eq_true_eq] at this
    show params.length ≤ 247
    omega

theorem Sys2Proof.Laws.FrameFits.requestFrame (tag code : Byte) (params : List Byte) :
    Sys2Proof.Laws.FrameFits.Statement (.requestFrame tag code params) := by
  intro _ r h; cases h

theorem Sys2Proof.Laws.FrameFits.ack (session cls seq : Byte) : Sys2Proof.Laws.FrameFits.Statement (.ack session cls seq) := by
  intro _ r h; cases h

theorem Sys2Proof.Laws.FrameFits.ackWrongLength (rest : List Byte) : Sys2Proof.Laws.FrameFits.Statement (.ackWrongLength rest) := by
  intro _ r h; cases h

theorem Sys2Proof.Laws.FrameFits.unknownTypeFrame (type : Byte) (rest : List Byte) :
    Sys2Proof.Laws.FrameFits.Statement (.unknownTypeFrame type rest) := by
  intro _ r h; cases h

theorem Sys2Proof.Laws.FrameFits.frameDiscard (why : FrameFault) : Sys2Proof.Laws.FrameFits.Statement (.frameDiscard why) := by
  intro _ r h; cases h

theorem Sys2Proof.Laws.FrameFits.gapExpiry : Sys2Proof.Laws.FrameFits.Statement .gapExpiry := by
  intro _ r h; cases h

theorem Sys2Proof.Laws.FrameFits.frameTransmitEnd : Sys2Proof.Laws.FrameFits.Statement .frameTransmitEnd := by
  intro _ r h; cases h

theorem Sys2Proof.Laws.FrameFits.edgeRecognized (channel : ChannelId) : Sys2Proof.Laws.FrameFits.Statement (.edgeRecognized channel) := by
  intro _ r h; cases h

theorem Sys2Proof.Laws.FrameFits.baseline (channel : ChannelId) (level : Bool) :
    Sys2Proof.Laws.FrameFits.Statement (.baseline channel level) := by
  intro _ r h; cases h

theorem Sys2Proof.Laws.FrameFits.saturationPoint (channel : ChannelId) :
    Sys2Proof.Laws.FrameFits.Statement (.saturationPoint channel) := by
  intro _ r h; cases h

theorem Sys2Proof.Laws.FrameFits.timerExpiry (timer : TimerId) : Sys2Proof.Laws.FrameFits.Statement (.timerExpiry timer) := by
  intro _ r h; cases h

theorem Sys2Proof.Laws.FrameFits.pulseEnd (line : LineId) : Sys2Proof.Laws.FrameFits.Statement (.pulseEnd line) := by
  intro _ r h; cases h

theorem Sys2Proof.Laws.FrameFits.retransmitTimerExpiry (cls : Cls) : Sys2Proof.Laws.FrameFits.Statement (.retransmitTimerExpiry cls) := by
  intro _ r h; cases h

theorem Sys2Proof.Laws.FrameFits.silenceExpiry : Sys2Proof.Laws.FrameFits.Statement .silenceExpiry := by
  intro _ r h; cases h

theorem Sys2Proof.Laws.FrameFits.batchHoldReached (cls : Cls) : Sys2Proof.Laws.FrameFits.Statement (.batchHoldReached cls) := by
  intro _ r h; cases h

theorem Sys2Proof.Laws.FrameFits.agedMark (cls : Cls) (number : Word16) : Sys2Proof.Laws.FrameFits.Statement (.agedMark cls number) := by
  intro _ r h; cases h

theorem Sys2Proof.Laws.FrameFits.powerOnReset : Sys2Proof.Laws.FrameFits.Statement .powerOnReset := by
  intro _ r h; cases h

theorem Sys2Proof.Laws.FrameFits.resetnLow : Sys2Proof.Laws.FrameFits.Statement .resetnLow := by
  intro _ r h; cases h

theorem Sys2Proof.Laws.FrameFits.resetRelease : Sys2Proof.Laws.FrameFits.Statement .resetRelease := by
  intro _ r h; cases h

theorem Sys2Proof.Laws.FrameFits.sampleInstant (channel : ChannelId) (level : Bool) :
    Sys2Proof.Laws.FrameFits.Statement (.sampleInstant channel level) := by
  intro _ r h; cases h

theorem Sys2Proof.Laws.FrameFits.characterReceived (byte : Byte) : Sys2Proof.Laws.FrameFits.Statement (.characterReceived byte) := by
  intro _ r h; cases h
end

