-- ==== Sys2Proof/Laws/Requests.lean ====
section
/-! SUPPORT. Requests: what an owner leaves alone, masks as one update of a block, and the outcome of a request that is taken at once. -/

namespace Sys2Proof.Machine

open Sys2Proof

/-! ### Masks -/

theorem foldl_mask_get {α : Type} {n : Nat} (p : Fin n → Bool) (g : α → α) (l : List (Fin n)) :
    ∀ (v : Vector α n), l.Nodup → ∀ j : Fin n,
      (l.foldl (fun v i => if p i then v.set i (g v[i]) else v) v)[j] = if j ∈ l ∧ p j = true then g v[j] else v[j] := by
  induction l with
  | nil => intro v _ j; simp
  | cons a l ih =>
    intro v hnd j
    obtain ⟨ha, hl⟩ := List.nodup_cons.mp hnd
    rw [List.foldl_cons, ih _ hl j]
    by_cases hj : j = a
    · subst hj
      simp only [ha, false_and, if_false, List.mem_cons, true_or, true_and]
      by_cases hp : p j = true <;> simp [hp]
    · have hne : a.val ≠ j.val := fun e => hj (Fin.ext e.symm)
      simp only [List.mem_cons, hj, false_or]
      by_cases hp : p a = true <;> simp [hp, hne]

/-- A mask applied in ascending index is one update of the whole block. -/
theorem foldl_mask {α : Type} {n : Nat} (p : Fin n → Bool) (g : α → α) (v : Vector α n) :
    (List.finRange n).foldl (fun v i => if p i then v.set i (g v[i]) else v) v =
      Vector.ofFn (fun i => if p i then g v[i] else v[i]) := by
  apply Vector.ext
  intro i hi
  have := foldl_mask_get p g (List.finRange n) v (List.nodup_finRange n) ⟨i, hi⟩
  simpa using this

theorem set_self {α : Type} {n : Nat} (v : Vector α n) (i : Fin n) : v.set i v[i] = v := by
  apply Vector.ext; intro j hj; simp

/-- An operation on each of the masked timers, which acts on its own one at the present timebase value, acts as one update. -/
theorem foldTimers_eq (p : TimerId → Bool) (f : TimerId → State → State) (g : Timer → Timer) (s : State)
    (hf : ∀ (k : TimerId) (x : Vector Timer _), f k { s with timers := x } = { s with timers := x.set k (g x[k]) }) :
    allTimers.foldl (fun s k => if p k then f k s else s) s =
      { s with timers := Vector.ofFn (fun k => if p k then g (timerAt s k) else timerAt s k) } := by
  have key : ∀ (l : List TimerId) (x : Vector Timer _),
      l.foldl (fun s k => if p k then f k s else s) { s with timers := x } =
        { s with timers := l.foldl (fun v i => if p i then v.set i (g v[i]) else v) x } := by
    intro l
    induction l with
    | nil => intro x; rfl
    | cons a l ih =>
      intro x
      rw [List.foldl_cons, List.foldl_cons]
      by_cases hp : p a = true
      · simp only [hp, if_true, hf]; exact ih _
      · simp only [hp]; exact ih _
  have := key allTimers s.timers
  rw [show allTimers = List.finRange _ from rfl, foldl_mask] at this
  exact this

/-- An operation on each of the masked channels, which acts on its own one at the present timebase value, acts as one update. -/
theorem foldChannels_eq (p : ChannelId → Bool) (f : ChannelId → State → State) (g : Channel → Channel) (s : State)
    (hf : ∀ (k : ChannelId) (x : Vector Channel _), f k { s with channels := x } = { s with channels := x.set k (g x[k]) }) :
    allChannels.foldl (fun s k => if p k then f k s else s) s =
      { s with channels := Vector.ofFn (fun k => if p k then g (channelAt s k) else channelAt s k) } := by
  have key : ∀ (l : List ChannelId) (x : Vector Channel _),
      l.foldl (fun s k => if p k then f k s else s) { s with channels := x } =
        { s with channels := l.foldl (fun v i => if p i then v.set i (g v[i]) else v) x } := by
    intro l
    induction l with
    | nil => intro x; rfl
    | cons a l ih =>
      intro x
      rw [List.foldl_cons, List.foldl_cons]
      by_cases hp : p a = true
      · simp only [hp, if_true, hf]; exact ih _
      · simp only [hp]; exact ih _
  have := key allChannels s.channels
  rw [show allChannels = List.finRange _ from rfl, foldl_mask] at this
  exact this

/-- An operation on each of the masked entries, which acts on its own one at the present timebase value, acts as one update. -/
theorem foldEntries_eq (p : EntryId → Bool) (f : EntryId → State → State) (g : Entry → Entry) (s : State)
    (hf : ∀ (k : EntryId) (x : Vector Entry _), f k { s with entries := x } = { s with entries := x.set k (g x[k]) }) :
    allEntries.foldl (fun s k => if p k then f k s else s) s =
      { s with entries := Vector.ofFn (fun k => if p k then g (entryAt s k) else entryAt s k) } := by
  have key : ∀ (l : List EntryId) (x : Vector Entry _),
      l.foldl (fun s k => if p k then f k s else s) { s with entries := x } =
        { s with entries := l.foldl (fun v i => if p i then v.set i (g v[i]) else v) x } := by
    intro l
    induction l with
    | nil => intro x; rfl
    | cons a l ih =>
      intro x
      rw [List.foldl_cons, List.foldl_cons]
      by_cases hp : p a = true
      · simp only [hp, if_true, hf]; exact ih _
      · simp only [hp]; exact ih _
  have := key allEntries s.entries
  rw [show allEntries = List.finRange _ from rfl, foldl_mask] at this
  exact this

/-- An operation on each of the masked outputs, which acts on its own one at the present timebase value, acts as one update. -/
theorem foldLines_eq (p : LineId → Bool) (f : LineId → State → State) (g : Output → Output) (s : State)
    (hf : ∀ (k : LineId) (x : Vector Output _), f k { s with outputs := x } = { s with outputs := x.set k (g x[k]) }) :
    allLines.foldl (fun s k => if p k then f k s else s) s =
      { s with outputs := Vector.ofFn (fun k => if p k then g (outputAt s k) else outputAt s k) } := by
  have key : ∀ (l : List LineId) (x : Vector Output _),
      l.foldl (fun s k => if p k then f k s else s) { s with outputs := x } =
        { s with outputs := l.foldl (fun v i => if p i then v.set i (g v[i]) else v) x } := by
    intro l
    induction l with
    | nil => intro x; rfl
    | cons a l ih =>
      intro x
      rw [List.foldl_cons, List.foldl_cons]
      by_cases hp : p a = true
      · simp only [hp, if_true, hf]; exact ih _
      · simp only [hp]; exact ih _
  have := key allLines s.outputs
  rw [show allLines = List.finRange _ from rfl, foldl_mask] at this
  exact this

/-! ### What an owner leaves alone -/

/-- The state a request leaves at its owner differs from the one it met in the blocks only: not in the transmitter, the queues, the
receiver, the timebase or the link rate. -/
structure OwnerFrame (s t : State) : Prop where
  timebase : t.timebase = s.timebase
  hardReset : t.hardReset = s.hardReset
  tx : t.tx = s.tx
  inputs : t.inputs = s.inputs
  notices : t.notices = s.notices
  attn : t.attn = s.attn
  requestQueue : t.requestQueue = s.requestQueue
  replyQueue : t.replyQueue = s.replyQueue
  rate : t.rate = s.rate
  rx : t.rx = s.rx
  candidate : t.candidate = s.candidate
  gapDue : t.gapDue = s.gapDue
  pending : t.pending = s.pending
  rxHeld : t.rxHeld = s.rxHeld
  rateChange : t.rateChange = s.rateChange

theorem OwnerFrame.refl (s : State) : OwnerFrame s s := ⟨rfl, rfl, rfl, rfl, rfl, rfl, rfl, rfl, rfl, rfl, rfl, rfl, rfl, rfl, rfl⟩

theorem OwnerFrame.trans {s t u : State} (h : OwnerFrame s t) (k : OwnerFrame t u) : OwnerFrame s u :=
  ⟨k.1.trans h.1, k.2.trans h.2, k.3.trans h.3, k.4.trans h.4, k.5.trans h.5, k.6.trans h.6, k.7.trans h.7, k.8.trans h.8,
    k.9.trans h.9, k.10.trans h.10, k.11.trans h.11, k.12.trans h.12, k.13.trans h.13, k.14.trans h.14, k.15.trans h.15⟩

theorem OwnerFrame.foldl {α : Type} (f : State → α → State) (hf : ∀ s a, OwnerFrame s (f s a)) (l : List α) (s : State) :
    OwnerFrame s (l.foldl f s) := by
  induction l generalizing s with
  | nil => exact OwnerFrame.refl s
  | cons a l ih => exact (hf s a).trans (ih _)

theorem overChannels_frame (mask : Word16) (f : ChannelId → State → State) (hf : ∀ i s, OwnerFrame s (f i s)) (s : State) :
    OwnerFrame s (overChannels mask f s) := by
  apply OwnerFrame.foldl
  intro s i
  split
  · exact hf i s
  · exact OwnerFrame.refl s

theorem overEntries_frame (mask : Word16) (f : EntryId → State → State) (hf : ∀ i s, OwnerFrame s (f i s)) (s : State) :
    OwnerFrame s (overEntries mask f s) := by
  apply OwnerFrame.foldl
  intro s i
  split
  · exact hf i s
  · exact OwnerFrame.refl s

theorem overTimers_frame (mask : Byte) (f : TimerId → State → State) (hf : ∀ t s, OwnerFrame s (f t s)) (s : State) :
    OwnerFrame s (overTimers mask f s) := by
  apply OwnerFrame.foldl
  intro s t
  split
  · exact hf t s
  · exact OwnerFrame.refl s

theorem claim_frame (op : OutOp) (s : State) : OwnerFrame s (claim op s) :=
  ⟨rfl, rfl, rfl, rfl, rfl, rfl, rfl, rfl, rfl, rfl, rfl, rfl, rfl, rfl, rfl⟩

theorem armChannel_ownerFrame (i : ChannelId) (s : State) : OwnerFrame s (armChannel i s) := by
  unfold armChannel
  split
  · exact OwnerFrame.refl s
  · exact ⟨rfl, rfl, rfl, rfl, rfl, rfl, rfl, rfl, rfl, rfl, rfl, rfl, rfl, rfl, rfl⟩

theorem disarmChannel_ownerFrame (i : ChannelId) (s : State) : OwnerFrame s (disarmChannel i s) := by
  unfold disarmChannel
  split
  · exact ⟨rfl, rfl, rfl, rfl, rfl, rfl, rfl, rfl, rfl, rfl, rfl, rfl, rfl, rfl, rfl⟩
  · exact OwnerFrame.refl s

theorem ownerHello_frame (s : State) : OwnerFrame s (ownerHello s).state := by
  exact ⟨rfl, rfl, rfl, rfl, rfl, rfl, rfl, rfl, rfl, rfl, rfl, rfl, rfl, rfl, rfl⟩

theorem ownerReset_frame (a : Byte) (s : State) : OwnerFrame s (ownerReset a s).state := by
  unfold ownerReset
  repeat' split
  all_goals exact ⟨rfl, rfl, rfl, rfl, rfl, rfl, rfl, rfl, rfl, rfl, rfl, rfl, rfl, rfl, rfl⟩

theorem ownerLinkCfg_frame (a b c d : Byte) (s : State) : OwnerFrame s (ownerLinkCfg a b c d s).state := by
  unfold ownerLinkCfg
  dsimp only
  repeat' split
  all_goals exact ⟨rfl, rfl, rfl, rfl, rfl, rfl, rfl, rfl, rfl, rfl, rfl, rfl, rfl, rfl, rfl⟩

theorem ownerLinkRead_frame (a : Byte) (s : State) : OwnerFrame s (ownerLinkRead a s).state := by
  unfold ownerLinkRead
  repeat' split
  all_goals exact ⟨rfl, rfl, rfl, rfl, rfl, rfl, rfl, rfl, rfl, rfl, rfl, rfl, rfl, rfl, rfl⟩

theorem ownerQuiet_frame (a : Byte) (s : State) : OwnerFrame s (ownerQuiet a s).state := by
  unfold ownerQuiet
  repeat' split
  all_goals exact ⟨rfl, rfl, rfl, rfl, rfl, rfl, rfl, rfl, rfl, rfl, rfl, rfl, rfl, rfl, rfl⟩

theorem ownerResume_frame (s : State) : OwnerFrame s (ownerResume s).state := by
  unfold ownerResume
  repeat' split
  all_goals exact ⟨rfl, rfl, rfl, rfl, rfl, rfl, rfl, rfl, rfl, rfl, rfl, rfl, rfl, rfl, rfl⟩

theorem ownerTimeRead_frame (s : State) : OwnerFrame s (ownerTimeRead s).state := by
  exact ⟨rfl, rfl, rfl, rfl, rfl, rfl, rfl, rfl, rfl, rfl, rfl, rfl, rfl, rfl, rfl⟩

theorem ownerChanRead_frame (a : Byte) (s : State) : OwnerFrame s (ownerChanRead a s).state := by
  unfold ownerChanRead
  repeat' split
  all_goals exact ⟨rfl, rfl, rfl, rfl, rfl, rfl, rfl, rfl, rfl, rfl, rfl, rfl, rfl, rfl, rfl⟩

theorem ownerClassRead_frame (a : Byte) (s : State) : OwnerFrame s (ownerClassRead a s).state := by
  unfold ownerClassRead
  repeat' split
  all_goals exact ⟨rfl, rfl, rfl, rfl, rfl, rfl, rfl, rfl, rfl, rfl, rfl, rfl, rfl, rfl, rfl⟩

theorem ownerFlush_frame (a : Byte) (s : State) : OwnerFrame s (ownerFlush a s).state := by
  unfold ownerFlush
  repeat' split
  all_goals exact ⟨rfl, rfl, rfl, rfl, rfl, rfl, rfl, rfl, rfl, rfl, rfl, rfl, rfl, rfl, rfl⟩

theorem ownerTimerRead_frame (a : Byte) (s : State) : OwnerFrame s (ownerTimerRead a s).state := by
  unfold ownerTimerRead
  repeat' split
  all_goals exact ⟨rfl, rfl, rfl, rfl, rfl, rfl, rfl, rfl, rfl, rfl, rfl, rfl, rfl, rfl, rfl⟩

theorem ownerReactRead_frame (a : Byte) (s : State) : OwnerFrame s (ownerReactRead a s).state := by
  unfold ownerReactRead
  repeat' split
  all_goals exact ⟨rfl, rfl, rfl, rfl, rfl, rfl, rfl, rfl, rfl, rfl, rfl, rfl, rfl, rfl, rfl⟩

theorem ownerOutRead_frame (s : State) : OwnerFrame s (ownerOutRead s).state := by
  exact ⟨rfl, rfl, rfl, rfl, rfl, rfl, rfl, rfl, rfl, rfl, rfl, rfl, rfl, rfl, rfl⟩

theorem ownerChanCfg_frame (a b c d e f g : Byte) (w : Word16) (s : State) : OwnerFrame s (ownerChanCfg a b c d e f g w s).state := by
  unfold ownerChanCfg
  repeat' split
  all_goals exact ⟨rfl, rfl, rfl, rfl, rfl, rfl, rfl, rfl, rfl, rfl, rfl, rfl, rfl, rfl, rfl⟩

theorem ownerClassCfg_frame (a b c d e f : Byte) (s : State) : OwnerFrame s (ownerClassCfg a b c d e f s).state := by
  unfold ownerClassCfg configureClass
  dsimp only
  repeat' split
  all_goals exact ⟨rfl, rfl, rfl, rfl, rfl, rfl, rfl, rfl, rfl, rfl, rfl, rfl, rfl, rfl, rfl⟩

theorem ownerTimerCfg_frame (a b : Byte) (q : Word24) (c d : Byte) (s : State) : OwnerFrame s (ownerTimerCfg a b q c d s).state := by
  unfold ownerTimerCfg
  repeat' split
  all_goals exact ⟨rfl, rfl, rfl, rfl, rfl, rfl, rfl, rfl, rfl, rfl, rfl, rfl, rfl, rfl, rfl⟩

theorem ownerReactLoad_frame (a b c d : Byte) (q : Word24) (e f g : Byte) (acts : List ActionBytes) (s : State) : OwnerFrame s (ownerReactLoad a b c d q e f g acts s).state := by
  unfold ownerReactLoad
  repeat' split
  all_goals exact ⟨rfl, rfl, rfl, rfl, rfl, rfl, rfl, rfl, rfl, rfl, rfl, rfl, rfl, rfl, rfl⟩

theorem ownerChanCtl_frame (w : Word16) (a : Byte) (s : State) : OwnerFrame s (ownerChanCtl w a s).state := by
  unfold ownerChanCtl
  repeat' split
  · exact overChannels_frame w enableChannel (fun _ _ => ⟨rfl, rfl, rfl, rfl, rfl, rfl, rfl, rfl, rfl, rfl, rfl, rfl, rfl, rfl, rfl⟩) s
  · exact overChannels_frame w disableChannel (fun _ _ => ⟨rfl, rfl, rfl, rfl, rfl, rfl, rfl, rfl, rfl, rfl, rfl, rfl, rfl, rfl, rfl⟩) s
  · exact OwnerFrame.refl s
  · exact overChannels_frame w _ armChannel_ownerFrame s
  · exact overChannels_frame w _ disarmChannel_ownerFrame s
  · exact overChannels_frame w clearSeen (fun _ _ => ⟨rfl, rfl, rfl, rfl, rfl, rfl, rfl, rfl, rfl, rfl, rfl, rfl, rfl, rfl, rfl⟩) s
  · exact OwnerFrame.refl s

theorem ownerTimerCtl_frame (a b : Byte) (s : State) : OwnerFrame s (ownerTimerCtl a b s).state := by
  unfold ownerTimerCtl
  repeat' split
  · exact OwnerFrame.refl s
  · exact overTimers_frame a startTimer (fun _ _ => ⟨rfl, rfl, rfl, rfl, rfl, rfl, rfl, rfl, rfl, rfl, rfl, rfl, rfl, rfl, rfl⟩) s
  · exact overTimers_frame a stopTimer (fun _ _ => ⟨rfl, rfl, rfl, rfl, rfl, rfl, rfl, rfl, rfl, rfl, rfl, rfl, rfl, rfl, rfl⟩) s

theorem ownerReactCtl_frame (w : Word16) (a : Byte) (s : State) : OwnerFrame s (ownerReactCtl w a s).state := by
  unfold ownerReactCtl
  repeat' split
  · exact OwnerFrame.refl s
  · exact overEntries_frame w armEntry (fun _ _ => ⟨rfl, rfl, rfl, rfl, rfl, rfl, rfl, rfl, rfl, rfl, rfl, rfl, rfl, rfl, rfl⟩) s
  · exact overEntries_frame w disarmEntry (fun _ _ => ⟨rfl, rfl, rfl, rfl, rfl, rfl, rfl, rfl, rfl, rfl, rfl, rfl, rfl, rfl, rfl⟩) s
  · exact overEntries_frame w clearEntry (fun _ _ => ⟨rfl, rfl, rfl, rfl, rfl, rfl, rfl, rfl, rfl, rfl, rfl, rfl, rfl, rfl, rfl⟩) s
  · exact OwnerFrame.refl s

theorem ownerOutWrite_frame (ops : List OutOpBytes) (s : State) : OwnerFrame s (ownerOutWrite ops s).state := by
  unfold ownerOutWrite
  repeat' split
  · exact OwnerFrame.refl s
  · exact OwnerFrame.refl s
  · exact OwnerFrame.foldl _ (fun s op => claim_frame op s) _ s

theorem ownerOutCfg_frame (a b c : Byte) (s : State) : OwnerFrame s (ownerOutCfg a b c s).state := by
  unfold ownerOutCfg
  repeat' split
  · exact OwnerFrame.refl s
  · apply OwnerFrame.foldl
    intro s l
    split
    · exact ⟨rfl, rfl, rfl, rfl, rfl, rfl, rfl, rfl, rfl, rfl, rfl, rfl, rfl, rfl, rfl⟩
    · exact OwnerFrame.refl s
  · exact OwnerFrame.refl s

/-- The frame of the owners, whichever request it is. -/
theorem ownerOf_frame (code : Byte) (params : List Byte) (s : State) : OwnerFrame s (ownerOf code params s).state := by
  unfold ownerOf
  split
  · exact ownerHello_frame s
  · exact ownerReset_frame _ s
  · exact ownerLinkCfg_frame _ _ _ _ s
  · exact ownerLinkRead_frame _ s
  · exact ownerQuiet_frame _ s
  · exact ownerResume_frame s
  · exact ownerTimeRead_frame s
  · exact ownerChanCfg_frame _ _ _ _ _ _ _ _ s
  · exact ownerChanCtl_frame _ _ s
  · exact ownerChanRead_frame _ s
  · exact ownerClassCfg_frame _ _ _ _ _ _ s
  · exact ownerClassRead_frame _ s
  · exact ownerFlush_frame _ s
  · exact ownerTimerCfg_frame _ _ _ _ _ s
  · exact ownerTimerCtl_frame _ _ s
  · exact ownerTimerRead_frame _ s
  · exact ownerReactLoad_frame _ _ _ _ _ _ _ _ _ s
  · exact ownerReactCtl_frame _ _ s
  · exact ownerReactRead_frame _ s
  · exact ownerOutWrite_frame _ s
  · exact ownerOutCfg_frame _ _ _ s
  · exact ownerOutRead_frame s
  · exact OwnerFrame.refl s

/-- R160: what the execution of any request leaves alone. -/
theorem execute_frame (r : Request) (s : State) : OwnerFrame s (execute r s).state := by
  unfold execute
  repeat' split
  · exact OwnerFrame.refl s
  · exact OwnerFrame.refl s
  · exact OwnerFrame.refl s
  · exact ownerOf_frame _ _ s

/-- R160: a refused request changes nothing, returns no data and holds no rate code. -/
theorem ownerOf_refused (code : Byte) (params : List Byte) (s : State) (h : (ownerOf code params s).status ≠ .ok) :
    ownerOf code params s = refuse (ownerOf code params s).status s := by
  revert h
  unfold ownerOf ownerHello ownerReset ownerLinkCfg ownerLinkRead ownerQuiet ownerResume ownerTimeRead ownerChanCfg ownerChanCtl
    ownerChanRead ownerClassCfg ownerClassRead ownerFlush ownerTimerCfg ownerTimerCtl ownerTimerRead ownerReactLoad ownerReactCtl
    ownerReactRead ownerOutWrite ownerOutCfg ownerOutRead
  dsimp only
  repeat' split
  all_goals first
    | (intro h; rfl)
    | (intro h; exact absurd rfl h)

theorem execute_refused (r : Request) (s : State) (h : (execute r s).status ≠ .ok) :
    execute r s = refuse (execute r s).status s := by
  revert h
  unfold execute
  repeat' split
  · intro _; rfl
  · intro _; rfl
  · intro _; rfl
  · exact ownerOf_refused _ _ s

/-! ### A request taken at once -/

/-- The state in which request `r` is executed when it is taken at once in `s`: its frame has arrived, what waited on an idle transmitter has
been selected, and the request is out of its queue. -/
def executing (r : Request) (s : State) : State :=
  { arrived r s with tx := (selectWaiting s).tx, replyQueue := (selectWaiting s).replyQueue, notices := (selectWaiting s).notices,
                     requestQueue := s.requestQueue.tail }

/-- `u` with the transmitter and the queues as they stand when a request is executed in `s`. -/
def whileExecuting (s u : State) : State :=
  { u with tx := (selectWaiting s).tx, replyQueue := (selectWaiting s).replyQueue, notices := (selectWaiting s).notices,
           requestQueue := s.requestQueue.tail }

theorem executing_eq (r : Request) (s : State) : executing r s = whileExecuting s (arrived r s) := rfl

theorem arrived_frame (r : Request) (s : State) : ∃ rx candidate gapDue silenceDue rxHeld,
    arrived r s = { s with rx := rx, candidate := candidate, gapDue := gapDue, silenceDue := silenceDue, rxHeld := rxHeld } := by
  unfold arrived
  split
  · exact ⟨s.rx, s.candidate, s.gapDue, s.silenceDue, s.rxHeld, rfl⟩
  · exact ⟨_, _, _, _, _, rfl⟩

theorem selectWaiting_replyQueue_le (s : State) : (selectWaiting s).replyQueue.length ≤ s.replyQueue.length := by
  rcases selectWaiting_cases s with ⟨h, -⟩ | ⟨-, -, r, rest, hq, h⟩ | ⟨-, -, hq, n, rest, -, h⟩
  · rw [h]
  · rw [h, hq]; simp [startSending]
  · rw [h]; simp [startSending]

/-- Every row of a request is the event of that request. -/
theorem exec_request {i : Instr} {r : Request} (h : requestOf i = some r) (s : State) : exec i s = event (request r) s := by
  cases i <;> simp only [requestOf, Option.some.injEq, reduceCtorEq] at h
  case unknownCodeRequest tag code params =>
    split at h
    · cases h
    · next hc =>
      cases h
      simp only [exec, execUnknownCodeRequest, hc]
      rfl
  all_goals (subst h; rfl)

/-- R175: what a sound frame leaves before it is handled. -/
theorem restartSilence_heard (s : State) : restartSilence (toHunt { s with rxHeld := false }) = heard s := by
  unfold restartSilence heard toHunt
  by_cases hd : s.silenceDue.isSome
  · simp [hd, silenceStart]
  · simp [Option.not_isSome_iff_eq_none.mp hd]

@[simp] theorem charactersFit_selectWaiting (n : Nat) (s : State) : charactersFit n (selectWaiting s) = charactersFit n s := by
  simp [charactersFit, bitsFit]
@[simp] theorem canComplete_selectWaiting (body : List Byte) (s : State) : canComplete body (selectWaiting s) = canComplete body s := by
  simp [canComplete]

/-- R172: with no rate change in memory every character fits. -/
theorem charactersFit_none (n : Nat) (s : State) (h : s.rateChange = none) : charactersFit n s = true := by
  simp [charactersFit, bitsFit, h]

/-- Everything a character can do: it is dropped at a rate change, or its byte is taken. -/
theorem takeCharacter_cases (b : Byte) (s : State) :
    (charactersFit 1 s = true ∧ takeCharacter b s = receiveByte b { s with rxHeld := false }) ∨
    (charactersFit 1 s = false ∧ takeCharacter b s = s) := by
  by_cases h : charactersFit 1 s = true
  · exact .inl ⟨h, by simp [takeCharacter, h]⟩
  · exact .inr ⟨by simpa using h, by simp [takeCharacter, h]⟩

/-- Everything a framing error can do: it is dropped, or the receiver waits for RXD at 1 and the frame being collected is discarded. -/
theorem takeFramingError_cases (released : Bool) (s : State) :
    (charactersFit 1 s = true ∧ (released = true ∨ s.rxHeld = false) ∧
      takeFramingError released s = framingError { s with rxHeld := true }) ∨
    ((charactersFit 1 s = false ∨ (released = false ∧ s.rxHeld = true)) ∧ takeFramingError released s = s) := by
  unfold takeFramingError
  cases h1 : charactersFit 1 s <;> cases h2 : released <;> cases h3 : s.rxHeld <;> simp

/-- A request that can be taken at once is answered in the state `executing`. -/
theorem request_taken {r : Request} {s : State} (h : Acceptable r s) : request r (selectWaiting s) = answer r (executing r s) := by
  obtain ⟨hh, hp, hq, hq'⟩ := h
  have hlt : (selectWaiting s).replyQueue.length < 4 := lt_of_le_of_lt (selectWaiting_replyQueue_le s) hq
  rcases hq' with hhead | ⟨hempty, hcache, hcan⟩
  · have hat : atHead r (selectWaiting s) = true := by simp [atHead, hhead]
    obtain ⟨rest, hrest⟩ : ∃ rest, s.requestQueue = r :: rest := by
      cases hs : s.requestQueue with
      | nil => rw [hs] at hhead; simp at hhead
      | cons a l => rw [hs] at hhead; simp at hhead; exact ⟨l, by rw [hhead]⟩
    have hct : canTake (selectWaiting s) = true := by
      simp [canTake, hrest, hp, Config.replyQueueSize, hlt]
    have harr : arrived r s = s := by simp [arrived, hhead]
    simp only [request, hat, if_true, takeHead, selectWaiting_requestQueue, hrest, hct]
    congr 1
    rw [executing, harr, hrest]
    obtain ⟨tx, rq, ns, hw⟩ := selectWaiting_frame s
    rw [hw]; rfl
  · have hat : atHead r (selectWaiting s) = false := by simp [atHead, hempty]
    have harr : arrived r s = heard s := by simp [arrived, hempty]
    have hcan' : canComplete (requestBody r) (selectWaiting s) = true := by simpa using hcan
    have hc : cachedReply r (heard (selectWaiting s)) = none := by
      have : (heard (selectWaiting s)).replyCache = s.replyCache := by simp [heard]
      simp only [cachedReply, this, Option.map_eq_none_iff, List.find?_eq_none]
      intro e he
      simpa using hcache e he
    have hct : canTake { heard (selectWaiting s) with requestQueue := [r] } = true := by
      simp [canTake, heard, hp, Config.replyQueueSize, hlt]
    have hrq : (heard (selectWaiting s)).requestQueue = [] := by simp [heard, hempty]
    unfold request
    simp only [hat, Bool.false_eq_true, if_false]
    rw [deliver, if_pos hcan', soundFrame, restartSilence_heard]
    simp only [requestBody, handleFrame, if_true, screen, hc, hrq, List.contains_nil, Bool.false_eq_true, if_false, List.length_nil,
      Config.requestQueueSize, Nat.zero_lt_succ, List.nil_append, takeHead, hct]
    congr 1
    rw [executing, harr, hempty]
    obtain ⟨tx, rq, ns, hw⟩ := selectWaiting_frame s
    rw [hw]; rfl

/-- The outcome of a request that is taken at once, from what its execution leaves. -/
theorem selectNext_answer {r : Request} {s u : State} {status : Status} {data : List Byte} {rate : Option RateCode} (hs : s.hardReset = none)
    (hex : execute r (executing r s) = { state := whileExecuting s u, status := status, data := data, rate := rate })
    (hu : OwnerFrame s { u with rx := s.rx, candidate := s.candidate, gapDue := s.gapDue, rxHeld := s.rxHeld }) :
    selectNext (answer r (executing r s)) = replied r status data rate s u := by
  have htx : u.tx = s.tx := hu.tx
  have hrq : u.replyQueue = s.replyQueue := hu.replyQueue
  have hns : u.notices = s.notices := hu.notices
  have hh : u.hardReset = none := hu.hardReset.trans hs
  have htb : u.timebase = s.timebase := hu.timebase
  have hrt : u.rate = s.rate := hu.rate
  unfold answer
  rw [hex]
  rcases nil_or_cons s.replyQueue with hq | ⟨first, rest, hq⟩
  · rcases none_or_some s.tx with ht | ⟨x, ht⟩
    · rcases nil_or_cons s.notices with hn | ⟨n, ns, hn⟩
      · have hw : selectWaiting s = s := by simp [selectWaiting, hq, hn]
        simp [whileExecuting, hw, selectNext, driveAttn, arbitrate, ht, hq, hn, hh, startSending, replied, placed, beginning, htb, hrt,
          formReply, attnLevel, hrq, hns]
        rfl
      · have hw : selectWaiting s = startSending (.notice n) { s with notices := ns } := by
          rw [show selectWaiting s = arbitrate s by simp [selectWaiting, hn], arbitrate_notice s n ns ht hs hq hn]
        simp [whileExecuting, hw, selectNext, driveAttn, arbitrate, ht, hq, hn, startSending, replied, placed, beginning, htb, hrt,
          formReply, attnLevel]
        rfl
    · have hw : selectWaiting s = s := by
        rcases selectWaiting_cases s with ⟨h, -⟩ | ⟨h, -⟩ | ⟨h, -⟩
        · exact h
        · rw [ht] at h; cases h
        · rw [ht] at h; cases h
      simp [whileExecuting, hw, selectNext, driveAttn, arbitrate, ht, hq, replied, placed, formReply, attnLevel, htx, hns]
      rfl
  · rcases none_or_some s.tx with ht | ⟨x, ht⟩
    · have hw : selectWaiting s = startSending (.reply first) { s with replyQueue := rest } := by
        rw [show selectWaiting s = arbitrate s by simp [selectWaiting, hq], arbitrate_reply s first rest ht hs hq]
      simp [whileExecuting, hw, selectNext, driveAttn, arbitrate, ht, hq, startSending, replied, placed, beginning, htb, hrt, formReply,
        attnLevel, hns]
      rfl
    · have hw : selectWaiting s = s := by
        rcases selectWaiting_cases s with ⟨h, -⟩ | ⟨h, -⟩ | ⟨h, -⟩
        · exact h
        · rw [ht] at h; cases h
        · rw [ht] at h; cases h
      simp [whileExecuting, hw, selectNext, driveAttn, arbitrate, ht, hq, replied, placed, formReply, attnLevel, htx, hns]
      rfl

/-- The outcome of a request that is taken at once, with what the handler takes behind it. -/
theorem settle_answer {r : Request} {s u : State} {status : Status} {data : List Byte} {rate : Option RateCode} (hs : s.hardReset = none)
    (hex : execute r (executing r s) = { state := whileExecuting s u, status := status, data := data, rate := rate })
    (hu : OwnerFrame s { u with rx := s.rx, candidate := s.candidate, gapDue := s.gapDue, rxHeld := s.rxHeld }) :
    settle (answer r (executing r s)) = goOn (replied r status data rate s u) := by
  simp only [settle, selectNext_answer hs hex hu, goOn]

@[simp] theorem arrived_timebase (r : Request) (s : State) : (arrived r s).timebase = s.timebase := by
  obtain ⟨_, _, _, _, _, h⟩ := arrived_frame r s; rw [h]
@[simp] theorem arrived_hardReset (r : Request) (s : State) : (arrived r s).hardReset = s.hardReset := by
  obtain ⟨_, _, _, _, _, h⟩ := arrived_frame r s; rw [h]
@[simp] theorem arrived_classes (r : Request) (s : State) : (arrived r s).classes = s.classes := by
  obtain ⟨_, _, _, _, _, h⟩ := arrived_frame r s; rw [h]
@[simp] theorem arrived_reserve (r : Request) (s : State) : (arrived r s).reserve = s.reserve := by
  obtain ⟨_, _, _, _, _, h⟩ := arrived_frame r s; rw [h]
@[simp] theorem arrived_retransmitTimeout (r : Request) (s : State) : (arrived r s).retransmitTimeout = s.retransmitTimeout := by
  obtain ⟨_, _, _, _, _, h⟩ := arrived_frame r s; rw [h]
@[simp] theorem arrived_retryLimit (r : Request) (s : State) : (arrived r s).retryLimit = s.retryLimit := by
  obtain ⟨_, _, _, _, _, h⟩ := arrived_frame r s; rw [h]
@[simp] theorem arrived_tx (r : Request) (s : State) : (arrived r s).tx = s.tx := by
  obtain ⟨_, _, _, _, _, h⟩ := arrived_frame r s; rw [h]
@[simp] theorem arrived_channels (r : Request) (s : State) : (arrived r s).channels = s.channels := by
  obtain ⟨_, _, _, _, _, h⟩ := arrived_frame r s; rw [h]
@[simp] theorem arrived_inputs (r : Request) (s : State) : (arrived r s).inputs = s.inputs := by
  obtain ⟨_, _, _, _, _, h⟩ := arrived_frame r s; rw [h]
@[simp] theorem arrived_timers (r : Request) (s : State) : (arrived r s).timers = s.timers := by
  obtain ⟨_, _, _, _, _, h⟩ := arrived_frame r s; rw [h]
@[simp] theorem arrived_entries (r : Request) (s : State) : (arrived r s).entries = s.entries := by
  obtain ⟨_, _, _, _, _, h⟩ := arrived_frame r s; rw [h]
@[simp] theorem arrived_outputs (r : Request) (s : State) : (arrived r s).outputs = s.outputs := by
  obtain ⟨_, _, _, _, _, h⟩ := arrived_frame r s; rw [h]
@[simp] theorem arrived_link (r : Request) (s : State) : (arrived r s).link = s.link := by
  obtain ⟨_, _, _, _, _, h⟩ := arrived_frame r s; rw [h]
@[simp] theorem arrived_session (r : Request) (s : State) : (arrived r s).session = s.session := by
  obtain ⟨_, _, _, _, _, h⟩ := arrived_frame r s; rw [h]
@[simp] theorem arrived_silenceLimit (r : Request) (s : State) : (arrived r s).silenceLimit = s.silenceLimit := by
  obtain ⟨_, _, _, _, _, h⟩ := arrived_frame r s; rw [h]
@[simp] theorem arrived_notices (r : Request) (s : State) : (arrived r s).notices = s.notices := by
  obtain ⟨_, _, _, _, _, h⟩ := arrived_frame r s; rw [h]
@[simp] theorem arrived_attn (r : Request) (s : State) : (arrived r s).attn = s.attn := by
  obtain ⟨_, _, _, _, _, h⟩ := arrived_frame r s; rw [h]
@[simp] theorem arrived_pendingReset (r : Request) (s : State) : (arrived r s).pendingReset = s.pendingReset := by
  obtain ⟨_, _, _, _, _, h⟩ := arrived_frame r s; rw [h]
@[simp] theorem arrived_requestQueue (r : Request) (s : State) : (arrived r s).requestQueue = s.requestQueue := by
  obtain ⟨_, _, _, _, _, h⟩ := arrived_frame r s; rw [h]
@[simp] theorem arrived_replyQueue (r : Request) (s : State) : (arrived r s).replyQueue = s.replyQueue := by
  obtain ⟨_, _, _, _, _, h⟩ := arrived_frame r s; rw [h]
@[simp] theorem arrived_replyCache (r : Request) (s : State) : (arrived r s).replyCache = s.replyCache := by
  obtain ⟨_, _, _, _, _, h⟩ := arrived_frame r s; rw [h]
@[simp] theorem arrived_rate (r : Request) (s : State) : (arrived r s).rate = s.rate := by
  obtain ⟨_, _, _, _, _, h⟩ := arrived_frame r s; rw [h]
@[simp] theorem arrived_discards (r : Request) (s : State) : (arrived r s).discards = s.discards := by
  obtain ⟨_, _, _, _, _, h⟩ := arrived_frame r s; rw [h]
@[simp] theorem arrived_rateChange (r : Request) (s : State) : (arrived r s).rateChange = s.rateChange := by
  obtain ⟨_, _, _, _, _, h⟩ := arrived_frame r s; rw [h]
@[simp] theorem arrived_pending (r : Request) (s : State) : (arrived r s).pending = s.pending := by
  obtain ⟨_, _, _, _, _, h⟩ := arrived_frame r s; rw [h]
@[simp] theorem executing_timebase (r : Request) (s : State) : (executing r s).timebase = s.timebase := by simp [executing]
@[simp] theorem executing_hardReset (r : Request) (s : State) : (executing r s).hardReset = s.hardReset := by simp [executing]
@[simp] theorem executing_classes (r : Request) (s : State) : (executing r s).classes = s.classes := by simp [executing]
@[simp] theorem executing_reserve (r : Request) (s : State) : (executing r s).reserve = s.reserve := by simp [executing]
@[simp] theorem executing_retransmitTimeout (r : Request) (s : State) : (executing r s).retransmitTimeout = s.retransmitTimeout := by simp [executing]
@[simp] theorem executing_retryLimit (r : Request) (s : State) : (executing r s).retryLimit = s.retryLimit := by simp [executing]
@[simp] theorem executing_tx (r : Request) (s : State) : (executing r s).tx = (selectWaiting s).tx := rfl
@[simp] theorem executing_channels (r : Request) (s : State) : (executing r s).channels = s.channels := by simp [executing]
@[simp] theorem executing_inputs (r : Request) (s : State) : (executing r s).inputs = s.inputs := by simp [executing]
@[simp] theorem executing_timers (r : Request) (s : State) : (executing r s).timers = s.timers := by simp [executing]
@[simp] theorem executing_entries (r : Request) (s : State) : (executing r s).entries = s.entries := by simp [executing]
@[simp] theorem executing_outputs (r : Request) (s : State) : (executing r s).outputs = s.outputs := by simp [executing]
@[simp] theorem executing_link (r : Request) (s : State) : (executing r s).link = s.link := by simp [executing]
@[simp] theorem executing_session (r : Request) (s : State) : (executing r s).session = s.session := by simp [executing]
@[simp] theorem executing_silenceLimit (r : Request) (s : State) : (executing r s).silenceLimit = s.silenceLimit := by simp [executing]
@[simp] theorem executing_notices (r : Request) (s : State) : (executing r s).notices = (selectWaiting s).notices := rfl
@[simp] theorem executing_attn (r : Request) (s : State) : (executing r s).attn = s.attn := by simp [executing]
@[simp] theorem executing_pendingReset (r : Request) (s : State) : (executing r s).pendingReset = s.pendingReset := by simp [executing]
@[simp] theorem executing_requestQueue (r : Request) (s : State) : (executing r s).requestQueue = s.requestQueue.tail := rfl
@[simp] theorem executing_replyQueue (r : Request) (s : State) : (executing r s).replyQueue = (selectWaiting s).replyQueue := rfl
@[simp] theorem executing_replyCache (r : Request) (s : State) : (executing r s).replyCache = s.replyCache := by simp [executing]
@[simp] theorem executing_rate (r : Request) (s : State) : (executing r s).rate = s.rate := by simp [executing]
@[simp] theorem executing_discards (r : Request) (s : State) : (executing r s).discards = s.discards := by simp [executing]
@[simp] theorem executing_rxHeld (r : Request) (s : State) : (executing r s).rxHeld = (arrived r s).rxHeld := rfl
@[simp] theorem executing_rateChange (r : Request) (s : State) : (executing r s).rateChange = s.rateChange := by simp [executing]
@[simp] theorem executing_pending (r : Request) (s : State) : (executing r s).pending = s.pending := by simp [executing]
@[simp] theorem executing_silenceDue (r : Request) (s : State) : (executing r s).silenceDue = (arrived r s).silenceDue := rfl
@[simp] theorem executing_rx (r : Request) (s : State) : (executing r s).rx = (arrived r s).rx := rfl
@[simp] theorem executing_candidate (r : Request) (s : State) : (executing r s).candidate = (arrived r s).candidate := rfl
@[simp] theorem executing_gapDue (r : Request) (s : State) : (executing r s).gapDue = (arrived r s).gapDue := rfl
@[simp] theorem classAt_arrived (r : Request) (s : State) (k : Cls) : classAt (arrived r s) k = classAt s k := by simp [classAt]
@[simp] theorem classAt_executing (r : Request) (s : State) (k : Cls) : classAt (executing r s) k = classAt s k := by
  simp [classAt, executing]
@[simp] theorem channelAt_arrived (r : Request) (s : State) (k : ChannelId) : channelAt (arrived r s) k = channelAt s k := by simp [channelAt]
@[simp] theorem channelAt_executing (r : Request) (s : State) (k : ChannelId) : channelAt (executing r s) k = channelAt s k := by
  simp [channelAt, executing]
@[simp] theorem timerAt_arrived (r : Request) (s : State) (k : TimerId) : timerAt (arrived r s) k = timerAt s k := by simp [timerAt]
@[simp] theorem timerAt_executing (r : Request) (s : State) (k : TimerId) : timerAt (executing r s) k = timerAt s k := by
  simp [timerAt, executing]
@[simp] theorem entryAt_arrived (r : Request) (s : State) (k : EntryId) : entryAt (arrived r s) k = entryAt s k := by simp [entryAt]
@[simp] theorem entryAt_executing (r : Request) (s : State) (k : EntryId) : entryAt (executing r s) k = entryAt s k := by
  simp [entryAt, executing]
@[simp] theorem outputAt_arrived (r : Request) (s : State) (k : LineId) : outputAt (arrived r s) k = outputAt s k := by simp [outputAt]
@[simp] theorem outputAt_executing (r : Request) (s : State) (k : LineId) : outputAt (executing r s) k = outputAt s k := by
  simp [outputAt, executing]
@[simp] theorem storedCount_executing (r : Request) (s : State) : storedCount (executing r s) = storedCount s := by simp [storedCount]
@[simp] theorem freeCount_executing (r : Request) (s : State) : freeCount (executing r s) = freeCount s := by simp [freeCount]
@[simp] theorem lowerOccupancy_executing (r : Request) (s : State) : lowerOccupancy (executing r s) = lowerOccupancy s := by
  simp [lowerOccupancy]

/-- The outcome of any row of a request that is taken at once, from what its execution leaves. -/
theorem exec_answered {i : Instr} {r : Request} {s u : State} {status : Status} {data : List Byte} {rate : Option RateCode}
    (hi : requestOf i = some r) (h : Acceptable r s)
    (hex : execute r (executing r s) = { state := whileExecuting s u, status := status, data := data, rate := rate })
    (hu : OwnerFrame s { u with rx := s.rx, candidate := s.candidate, gapDue := s.gapDue, rxHeld := s.rxHeld }) :
    exec i s = .next (goOn (replied r status data rate s u)) := by
  rw [exec_request hi, event_eq _ _ h.1, request_taken h, settle_answer h.1 hex hu]

theorem arrived_ownerFrame (r : Request) (s : State) :
    OwnerFrame s { arrived r s with rx := s.rx, candidate := s.candidate, gapDue := s.gapDue, rxHeld := s.rxHeld } := by
  obtain ⟨_, _, _, _, _, h⟩ := arrived_frame r s
  rw [h]; exact ⟨rfl, rfl, rfl, rfl, rfl, rfl, rfl, rfl, rfl, rfl, rfl, rfl, rfl, rfl, rfl⟩

/-- A row of a request that is taken at once and refused. -/
theorem exec_refused {i : Instr} {r : Request} {s : State} {status : Status} (hi : requestOf i = some r) (h : Acceptable r s)
    (hex : execute r (executing r s) = refuse status (executing r s)) : exec i s = refusedWith r status s :=
  exec_answered hi h hex (arrived_ownerFrame r s)

/-- A request that passes the generic checks is executed at its owner. -/
theorem execute_owner {r : Request} {s : State} (hc : r.code ∈ requestCodes) (hl : lengthFits r.code r.params = true)
    (hd : s.link ≠ .down ∨ r.code = 0x01 ∨ r.code = 0x02) :
    execute r (executing r s) = ownerOf r.code r.params (executing r s) := by
  have : (executing r s).link = s.link := by simp [executing]
  unfold execute
  rw [if_neg (by simpa using hc), if_neg (by simp [hl]), if_neg (by rw [this]; tauto)]

/-! ### Takes (R158) -/

/-- Everything a take can do: the head of the queue is executed and answered when the three conditions hold, and nothing happens otherwise. -/
theorem takeHead_cases (s : State) :
    (canTake s = true ∧ ∃ r rest, s.requestQueue = r :: rest ∧ takeHead s = answer r { s with requestQueue := rest }) ∨
    (canTake s = false ∧ takeHead s = s) := by
  rcases nil_or_cons s.requestQueue with hq | ⟨r, rest, hq⟩
  · right; exact ⟨canTake_nil s hq, by simp [takeHead, hq]⟩
  · by_cases h : canTake s = true
    · left; exact ⟨h, r, rest, hq, by simp [takeHead, hq, h]⟩
    · right; exact ⟨by simpa using h, by simp [takeHead, hq, h]⟩

/-- What the answer of a request leaves alone, but for the reply queue. -/
theorem answer_frame (r : Request) (s : State) : OwnerFrame s { answer r s with replyQueue := s.replyQueue } := by
  have h := execute_frame r s
  exact ⟨h.1, h.2, h.3, h.4, h.5, h.6, h.7, rfl, h.9, h.10, h.11, h.12, h.13, h.14, h.15⟩

/-- A take shortens the request queue by its head. -/
theorem takeHead_requestQueue (s : State) (h : canTake s = true) : (takeHead s).requestQueue = s.requestQueue.tail := by
  rcases takeHead_cases s with ⟨-, r, rest, hq, ht⟩ | ⟨hf, -⟩
  · rw [ht, hq]; exact (answer_frame r { s with requestQueue := rest }).requestQueue
  · rw [h] at hf; cases hf

/-- The bound of the takes after an event is never used up: they go on until the handler may not take. -/
theorem takeWaiting_canTake (n : Nat) (s : State) (h : s.requestQueue.length ≤ n) : canTake (takeWaiting n s) = false := by
  induction n generalizing s with
  | zero => exact canTake_nil s (List.eq_nil_of_length_eq_zero (Nat.le_zero.mp h))
  | succ n ih =>
    by_cases hc : canTake s = true
    · rw [takeWaiting, if_pos hc]
      apply ih
      rw [selectNext_requestQueue, takeHead_requestQueue s hc, List.length_tail]
      omega
    · rw [takeWaiting_stop _ _ (by simpa using hc)]; simpa using hc

/-- After every event no request waits that the handler may take. -/
theorem settle_canTake (s : State) : canTake (settle s) = false := takeWaiting_canTake _ _ (Nat.le_refl _)

/-- After every event the arbiter has selected what it can, so what follows an event follows it once. -/
theorem selectNext_settle (s : State) : selectNext (settle s) = settle s := takeWaiting_selected _ _ (selectNext_idem s)

theorem settle_settle (s : State) : settle (settle s) = settle s := by
  rw [settle_stop (settle s) (by rw [selectNext_settle]; exact settle_canTake s), selectNext_settle]

end Sys2Proof.Machine
end

