-- ==== Sys2Proof/Machine/Wire.lean ====
section
/-! DEFINITION. The pins of the link as levels: the bits of a character, what TXD stands at, and what the receiver makes of the levels it takes
in the middle of the bit times of RXD (R169, R171; log 11). The machine's step does not use them: a character arrives as one command. -/

namespace Sys2Proof.Machine

open Sys2Proof

/-- R169: a character as ten bits: start bit 0, the data bits least significant first, stop bit 1. -/
def characterBits (b : Byte) : List Bool := [false] ++ (List.range 8).map (fun k => b.getLsbD k) ++ [true]

/-- R169, R171: the bits TXD carries for a frame, its characters with no idle time between them. -/
def txBits (f : TxFrame) : List Bool := ((txWire f).map characterBits).flatten

/-- R32, R169, R171: the level of TXD at the present microsecond: 1 while the transmitter is IDLE and during a hard reset, else the bit that
stands there at the nominal rate (log 6). -/
def txdLevel (s : State) : Bool :=
  match s.tx with
  | none => true
  | some x =>
    let elapsed := (s.timebase - (x.ends - frameTime s.rate x.frame)).toNat
    ((txBits x.frame)[elapsed * 1000 / charHundredths s.rate]?).getD true

/-- The byte of eight data bits, least significant first. -/
def byteOfBits (bits : List Bool) : Byte := bits.foldr (fun bit value => (value <<< 1) ||| (if bit then 1 else 0)) 0

/-- What the receiver makes of RXD bit by bit: it waits for RXD to return to 1 after a framing error, it looks for a start bit, or it has
taken the start bit and some data bits of a character. -/
inductive LineState where
  | held
  | idle
  | character (bits : List Bool)
  deriving DecidableEq, Repr

/-- R169, R174, R176: the level taken in the middle of the next bit time, and what it brings to the part: a character at a stop bit of 1, a
framing error at a stop bit of 0. After that error no start bit is looked for until RXD is 1 again; every framing error a line shows
therefore comes after a return to 1. -/
def lineStep (level : Bool) : LineState → LineState × List Instr
  | .held => (if level then .idle else .held, [])
  | .idle => (if level then .idle else .character [], [])
  | .character bits =>
    if bits.length < 8 then (.character (bits ++ [level]), [])
    else if level then (.idle, [.characterReceived (byteOfBits bits)])
    else (.held, [.frameDiscard (.framingError true)])

/-- What a run of levels brings to the part, in their order. -/
def lineCommands : LineState → List Bool → List Instr
  | _, [] => []
  | line, level :: rest => (lineStep level line).2 ++ lineCommands (lineStep level line).1 rest

/-- R172: a rate change drops the character in progress. -/
def lineAtRateChange : LineState → LineState
  | .character _ => .idle
  | line => line

end Sys2Proof.Machine
end

