-- ==== Sys2Proof/Tests/Slice0.lean ====
section
/-! SUPPORT. The model's own tests: the smoke test of WellFormed, worked examples of spec/ with the figures the spec prints, and for every
statement that has hypotheses a state and operands that meet them. -/

namespace Sys2Proof.Tests

open Sys2Proof Sys2Proof.Machine

-- One declaration after the other: the kernel evaluations below would otherwise hold many threads at once.
set_option Elab.async false

/-! ### Helpers -/

/-- The outcome is a next state with property `p`. -/
def yields (r : Result) (p : State → Bool) : Bool :=
  match r with
  | .next s => p s
  | .fault _ => false
  | .refused _ => false

/-- UP in session 6 with the transmitter BUSY with a notice to the end of microsecond 694. -/
def up : State :=
  { State.reset with link := .up, session := 6, notices := [], attn := false, tx := some { frame := .notice .bootPower, ends := 694 } }

/-- UP in session 6 with the transmitter IDLE and nothing waiting. -/
def calm : State := { up with tx := none }

/-- A state with one class, channel, timer, entry or line put in place. -/
def withClass (c : Cls) (x : ClassState) (s : State) : State := { s with classes := s.classes.set c x }
def withChannel (i : ChannelId) (x : Channel) (s : State) : State := { s with channels := s.channels.set i x }
def withTimer (t : TimerId) (x : Timer) (s : State) : State := { s with timers := s.timers.set t x }
def withEntry (i : EntryId) (x : Entry) (s : State) : State := { s with entries := s.entries.set i x }
def withOutput (l : LineId) (x : Output) (s : State) : State := { s with outputs := s.outputs.set l x }

/-- An EDGE record. -/
def edgeRecord (number : Word16) : Record :=
  { content := { kind := .edge .rise, source := 0, timestamp := 0 }, number := number, lostBefore := none, admittedAt := 0, aged := false }

/-- The events of a list run in order, each at its time; the run fails at the first outcome that is no next state. -/
def runAt : List (Time × Instr) → State → Result
  | [], s => .next s
  | (t, c) :: rest, s =>
    match exec c { s with timebase := t } with
    | .next s' => runAt rest s'
    | r => r

/-! ### WellFormed refuses an ill-formed command at each of its checks (R180, R182) -/

theorem test_wellFormed_reactLoad_no_action : (Instr.reactLoad 1 0 0 0 0 0 0 0 0 []).wellFormed = false := by decide
theorem test_wellFormed_reactLoad_five_actions :
    (Instr.reactLoad 1 0 0 0 0 0 0 0 0 (List.replicate 5 ⟨2, 0, 0, 0, 0, 0⟩)).wellFormed = false := by decide
theorem test_wellFormed_outWrite_nine_operations :
    (Instr.outWriteSet 1 0 1 0 (List.replicate 8 ⟨0, 0, 0, 0⟩)).wellFormed = false ∧
    (Instr.outWriteToggle 1 0 1 0 (List.replicate 8 ⟨0, 0, 0, 0⟩)).wellFormed = false ∧
    (Instr.outWritePulse 1 0 1 0 (List.replicate 8 ⟨0, 0, 0, 0⟩)).wellFormed = false := by decide
theorem test_wellFormed_unknownCode_of_known_code : (Instr.unknownCodeRequest 1 0x07 []).wellFormed = false := by decide
theorem test_wellFormed_bodies_too_long :
    (Instr.unknownCodeRequest 1 0x7F (List.replicate 248 0)).wellFormed = false ∧
    (Instr.requestFrame 1 0x07 (List.replicate 248 0)).wellFormed = false ∧
    (Instr.unknownTypeFrame 0x50 (List.replicate 250 0)).wellFormed = false := by decide +kernel
theorem test_wellFormed_ack_of_right_length : (Instr.ackWrongLength [6, 2, 9]).wellFormed = false := by decide
theorem test_wellFormed_ack_too_short : (Instr.ackWrongLength [6]).wellFormed = false := by decide
theorem test_wellFormed_type_of_a_known_frame :
    (Instr.unknownTypeFrame 0x51 [0, 0]).wellFormed = false ∧ (Instr.unknownTypeFrame 0x52 [0, 0]).wellFormed = false := by decide
theorem test_wellFormed_discard_of_a_good_length :
    (Instr.frameDiscard (.lenOutOfRange 3)).wellFormed = false ∧ (Instr.frameDiscard (.lenOutOfRange 250)).wellFormed = false := by decide
theorem test_wellFormed_accepts :
    (Instr.requestFrame 1 0x07 []).wellFormed = true ∧ (Instr.frameDiscard (.lenOutOfRange 251)).wellFormed = true := by decide

/-! ### Bytes (10.3, 10.6) -/

/-- R173: the CRC of the nine bytes 0x31 to 0x39 is 0x29B1. -/
theorem test_crc_check_value : crc [0x31, 0x32, 0x33, 0x34, 0x35, 0x36, 0x37, 0x38, 0x39] = 0x29B1#16 := by decide +kernel

/-- 10.6: LEN 0x04, the body 0x52 0x06 0x02 0x09 and the CRC 0x45B2. -/
theorem test_ack_frame_bytes : frameTail [0x52, 0x06, 0x02, 0x09] = [0x04, 0x52, 0x06, 0x02, 0x09, 0x45, 0xB2] := by decide +kernel

/-- 10.6: the WIDTH record of event 40 in its 11 bytes. -/
theorem test_width_record_bytes :
    recordBytes { content := { kind := .width .low 584576 false, source := 2, timestamp := 650000 }, number := 40, lostBefore := none,
                  admittedAt := 0, aged := false } =
      [0x20, 0x02, 0x00, 0x28, 0x00, 0x09, 0xEB, 0x10, 0x08, 0xEB, 0x80] := by decide +kernel

/-- 11.2: a report of one EDGE record is 17 characters, 1,476 us on the wire, one of four is 41 characters, 3,559 us. R34: one of eight records
of the largest size is 113 characters, 9.8 ms at 115200 bit/s. -/
theorem test_report_times :
    txChars (.report 2 1 5 [edgeRecord 200]) = 17 ∧ frameTime 4 (.report 2 1 5 [edgeRecord 200]) = 1476 ∧
    txChars (.report 2 1 6 (List.replicate 4 (edgeRecord 201))) = 41 ∧
    frameTime 4 (.report 2 1 6 (List.replicate 4 (edgeRecord 201))) = 3559 ∧
    (let largest := { edgeRecord 0 with content := { kind := .width .high 1 false, source := 0, timestamp := 0 }, lostBefore := some 1 }
     txChars (.report 2 1 7 (List.replicate 8 largest)) = 113 ∧ frameTime 4 (.report 2 1 7 (List.replicate 8 largest)) = 9808) := by
  decide +kernel

/-- 11.2: the CLASS_READ reply is 23 characters, 1,996 us at 115200 bit/s. R34, R170: at 921600 bit/s the 72 characters of OUT_READ's reply take
781.25 us, and a frame of 254 characters 2,755.9 us. -/
theorem test_times_of_long_frames :
    let reply (n : Nat) : TxFrame :=
      .reply { tag := 1, code := 0x32, status := .ok, data := List.replicate n 0, formed := true, rate := none }
    txChars (reply 15) = 23 ∧ frameTime 4 (reply 15) = 1996 ∧ txChars (reply 64) = 72 ∧ frameTime 7 (reply 64) = 781 ∧
    txChars (reply 246) = 254 ∧ frameTime 7 (reply 246) = 2756 ∧ gapLimit 7 = 109 := by decide +kernel

/-- R170: at 921600 bit/s a frame of 254 characters sent 2 % fast, whose 2,539 bit times are 2,699.9 us, is taken that long after a rate
change. -/
theorem test_fast_frame_after_a_rate_change :
    let s (now : Time) : State := { up with rate := 7, rateChange := some { time := 0, frameCounted := false }, timebase := now }
    charactersFit 254 (s 2699) = true ∧ charactersFit 254 (s 2698) = false := by decide +kernel

/-- R169, 10.6: SYNC 0xB4 on the wire, least significant bit first; the ten levels are read back as the byte. -/
theorem test_character_bits :
    characterBits 0xB4 = [false, false, false, true, false, true, true, false, true, true] ∧
    (∀ n : Fin 256, lineCommands .idle (characterBits (BitVec.ofFin n)) = [.characterReceived (BitVec.ofFin n)]) := by decide +kernel

/-- R169, R176: RXD at 0 for forty bit times is one framing error; once RXD is 1 again the next character is found. A rate change drops the
character in progress (R172). -/
theorem test_break_on_the_line :
    lineCommands .idle (List.replicate 40 false ++ [true] ++ characterBits 0xB4) =
      [.frameDiscard (.framingError true), .characterReceived 0xB4] ∧
    lineCommands (lineAtRateChange (.character [false, false])) (true :: characterBits 7) = [.characterReceived 7] := by decide +kernel

/-- R176: a break while a frame is being collected counts once, though the rescan opens a candidate; the next character is taken from it
once RXD has been at 1. -/
theorem test_break_counts_once :
    yields (runAt ([0xB4, 0x05, 0xB4, 0x04].map (fun b => (0, .characterReceived b)) ++
        [(200, .frameDiscard (.framingError true)), (300, .frameDiscard (.framingError false))]) up) (fun s =>
      s.discards == 1 && s.rx == .body && s.candidate == [0x04] && s.gapDue == some 868 && s.rxHeld &&
        yields (exec (.characterReceived 0x52) s) (fun t => t.discards == 1 && t.candidate == [0x04, 0x52] && !t.rxHeld)) = true := by
  decide +kernel

/-- R169: TXD is 1 when IDLE; at 115200 bit/s bit 3 of SYNC, the first 1 of the frame, stands there from 26.04 us on. -/
theorem test_txd_level :
    txdLevel calm = true ∧ txdLevel { up with timebase := 26 } = false ∧ txdLevel { up with timebase := 27 } = true ∧
    txdLevel { up with timebase := 693 } = true := by decide +kernel

/-! ### Worked examples -/

/-- 1.5: the pool of the example at its start. -/
def nearlyFull : State :=
  let record (n : Nat) : Record := edgeRecord (BitVec.ofNat 16 n)
  withClass 2 { ClassState.default 20 with
      unsent := (List.range 28).map (fun k => record (65525 + k)), nextNumber := 17, limit := 30 }
    (withClass 3 { ClassState.default 100 with
      unsent := (List.range 87).map (fun k => record (3913 + k)), nextNumber := 4000, limit := 100, nextSeq := 1
      frame := some { seq := 0, records := (List.range 8).map (fun k => record (3905 + k)), state := .sending } } up)

/-- 1.5, steps 1 to 7: what is admitted, refused and freed, and the lost_before of the records 17 of C2 and 4001 of C3. -/
theorem test_reserve_at_work :
    let o : Content := { kind := .edge .rise, source := 0, timestamp := 0 }
    let s3 := offer 3 o (offer 2 o (offer 3 o nearlyFull))
    let s5 := takeAck 6 3 0 (offer 0 o s3)
    let s7 := offer 3 o (offer 2 o s5)
    (freeCount s3, (classAt s3 2).lostPending, (classAt s3 3).lostPending, (classAt s3 3).nextNumber) = (4, 1, 1, 4001) ∧
    (freeCount s5, occupancy (classAt s5 0), occupancy (classAt s5 3)) = (11, 1, 88) ∧
    (freeCount s7, (classAt s7 2).nextNumber, (classAt s7 3).nextNumber) = (9, 18, 4002) ∧
    ((classAt s7 2).unsent.getLast?.map (fun r => (r.number, r.lostBefore))) = some (17, some 1) ∧
    ((classAt s7 3).unsent.getLast?.map (fun r => (r.number, r.lostBefore))) = some (4001, some 1) := by decide +kernel

/-- 3.7: channel 5 before the ENABLE at 1001. -/
def filterLine : State :=
  withChannel 5 { Channel.default with interval := 1, filterCount := 3, cls := 1 } up

/-- 3.7: ENABLE, ARM and the samples to 1044. -/
def filterSamples : List (Time × Instr) :=
  [(1001, .chanCtlEnable 1 0x0020), (1002, .chanCtlArm 2 0x0020), (1004, .sampleInstant 5 false), (1008, .sampleInstant 5 false),
    (1012, .baseline 5 false), (1016, .sampleInstant 5 true), (1020, .sampleInstant 5 false), (1024, .sampleInstant 5 true),
    (1028, .sampleInstant 5 true), (1032, .edgeRecognized 5), (1036, .sampleInstant 5 false), (1040, .sampleInstant 5 false)]

/-- 3.7: at 1042 CHAN_READ would show STABLE, filtered level 1, last sample 0, RISE_SEEN set, FALL_SEEN clear, armed; the RISE record of
source 5 carries timestamp 1024. -/
theorem test_line_through_the_filter :
    yields (runAt filterSamples filterLine) (fun s =>
      let c := channelAt s 5
      c.sampler == .stable true && c.lastSample == some false && c.riseSeen && !c.fallSeen && c.armed &&
        c.run == some { level := false, length := 2, start := 1036 } &&
        (classAt s 1).unsent.map (·.content) == [{ kind := .edge .rise, source := 5, timestamp := 1024 }]) = true := by decide +kernel

/-- 3.7, last row: the sample 1 at 1044 rejects the dip. -/
theorem test_dip_is_rejected :
    yields (runAt (filterSamples ++ [(1044, .sampleInstant 5 true)]) filterLine)
      (fun s => (channelAt s 5).run == none && !(channelAt s 5).fallSeen) = true := by decide +kernel

/-- 4.7: the LOW pulse of channel 2 measured, saturation point 17,427,231, width 584,576, timestamp 650,000. -/
theorem test_low_pulse_measured :
    let s0 := withChannel 2 { Channel.default with
      sampler := .stable true, interval := 2, filterCount := 2, mode := .width .low, cls := 1, armed := true } up
    let s1 := handEdge 2 .fall 650000 s0
    let s2 := handEdge 2 .rise 1234576 s1
    (channelAt s1 2).measurement = some { lead := 650000, saturated := false, saturationPoint := 17427231 } ∧
    (channelAt s2 2).measurement = none ∧
    (classAt s2 1).unsent.map (·.content) = [{ kind := .width .low 584576 false, source := 2, timestamp := 650000 }] := by
  decide +kernel

/-- 4.4: the HIGH pulse that spans the wrap: mark at 11,809,922, width 16,777,215 with OVER, timestamp 4,290,000,000. -/
theorem test_saturated_pulse :
    let s0 := withChannel 0 { Channel.default with sampler := .stable false, mode := .width .high, armed := true } up
    yields (exec (.saturationPoint 0) { handEdge 0 .rise 4290000000 s0 with timebase := 11809922 }) (fun s =>
      (classAt (handEdge 0 .fall 15032704 s) 3).unsent.map (·.content) ==
        [{ kind := .width .high 16777215 true, source := 0, timestamp := 4290000000 }]) = true := by decide +kernel

/-- 4.7: with threshold 3 the third counted edge makes the COUNT record and the fifth leaves count 2; DISARM keeps it, ARM clears it. -/
theorem test_count_across_a_disarm :
    let s0 := withChannel 9 { Channel.default with
      sampler := .stable true, mode := .count .rise, threshold := 3, cls := 2, armed := true } up
    let s5 := [10, 20, 30, 40, 50].foldl (fun s t => handEdge 9 .rise t (handEdge 9 .fall (t - 5) s)) s0
    (channelAt s5 9).count = 2 ∧
    (classAt s5 2).unsent.map (·.content) = [{ kind := .count 3, source := 9, timestamp := 30 }] ∧
    yields (exec (.chanCtlDisarm 1 0x0200) s5) (fun s => (channelAt s 9).count == 2 && !(channelAt s 9).armed) = true ∧
    yields (exec (.chanCtlArm 1 0x0200) s5) (fun s => (channelAt s 9).count == 0 && (channelAt s 9).armed) = true := by decide +kernel

/-- 5.7: TMR0, PERIODIC with period 250,000 us, started at 4,294,800,000, is due at 82,704; its expiry there is the eighth. -/
theorem test_periodic_mark :
    let s0 := withTimer 0 { due := none, mode := .periodic, period := 250000, report := true, cls := 3, expiryCount := 7 } up
    yields (runAt [(4294800000, .timerCtlStart 1 1)] s0) (fun s => (timerAt s 0).due == some 82704) = true ∧
    yields (runAt [(4294800000, .timerCtlStart 1 1), (82704, .timerExpiry 0)] s0) (fun s =>
      (timerAt s 0).due == some 332704 &&
        (classAt s 3).unsent.map (·.content) == [{ kind := .expiry 8, source := 0, timestamp := 82704 }]) = true := by decide +kernel

/-- 5.7: a TIMER_CTL STOP discards the pending expiry and keeps the count. -/
theorem test_timer_stop :
    let s0 := withTimer 0 { due := some 832704, mode := .periodic, period := 250000, report := true, cls := 3, expiryCount := 10 } up
    yields (exec (.timerCtlStop 1 1) { s0 with timebase := 700000 }) (fun s =>
      (timerAt s 0).due == none && (timerAt s 0).expiryCount == 10) = true := by decide +kernel

/-- An action loaded with zeros in the operand bytes it does not use. -/
def loadedWithZeros (a : Action) : LoadedAction := { action := a, unused := List.replicate (6 - (actionUsedBytes a).length) 0 }

/-- 6.5: the contents of the table of the example. -/
def passContents (qualifier : Qualifier) (fireLimit : Byte) (reportDone : Bool) (actions : List Action) : EntryContents :=
  { source := .channel 7, qualifier := qualifier, width := 0, fireLimit := fireLimit, doneClass := 1, reportDone := reportDone,
    actions := actions.map loadedWithZeros }

/-- 6.5: the state in which the RISE edge of channel 7 is recognized. -/
def passStart : State :=
  withEntry 1 { state := .armed (passContents .rise 2 true [.out (.set 3 true), .reactDisarm 4, .reactArm 9, .post 1 5])
                remaining := 1, fires := 7 }
    (withEntry 4 { state := .armed (passContents .any 0 false [.out (.toggle 0)]), remaining := 0, fires := 40 }
      (withEntry 6 { state := .armed (passContents .rise 3 true [.out (.pulse 1 true 500), .reactArm 6]), remaining := 1, fires := 12 }
        (withEntry 9 { state := .disarmed (passContents .any 0 false [.out (.set 5 true)]), remaining := 0, fires := 3 }
          (withEntry 12 { state := .armed (passContents .fall 0 false [.out (.set 6 false)]), remaining := 0, fires := 0 }
            (withClass 1 { ClassState.default 5 with nextNumber := 30 }
              (withChannel 7 { Channel.default with sampler := .stable true, interval := 2, cls := 1, armed := true }
                { up with timebase := 2000048 }))))))

/-- 6.5: fires and remaining of the entries, the lines and the records 30 EDGE, 31 POST and 32 DONE after the pass. -/
theorem test_one_pass :
    let s := handEdge 7 .rise 2000000 passStart
    ([1, 4, 6, 9, 12] : List EntryId).map (fun i => (entryAt s i).fires) = [8, 40, 13, 3, 0] ∧
    ([1, 6] : List EntryId).map (fun i => (entryAt s i).remaining) = [0, 2] ∧
    (outputAt s 3).level = true ∧ (outputAt s 0).level = false ∧ (outputAt s 5).level = false ∧
    (outputAt s 1).pulse = some { endTime := 2000548, restore := false } ∧
    (classAt s 1).unsent.map (fun r => (r.number, r.content)) =
      [(30, { kind := .edge .rise, source := 7, timestamp := 2000000 }), (31, { kind := .post 5, source := 1, timestamp := 2000000 }),
        (32, { kind := .done, source := 1, timestamp := 2000000 })] := by decide +kernel

/-- 7.5: OUT_WRITE SET OUT1 1, then PULSE OUT1 0 for 300, at 30,000: level 0, end 30,300, restore level 1. -/
theorem test_set_then_pulse :
    yields (exec (.outWriteSet 1 1 1 0 [⟨1, 2, 0, 300⟩]) { up with timebase := 30000 }) (fun s =>
      (outputAt s 1).level == false && (outputAt s 1).pulse == some { endTime := 30300, restore := true }) = true ∧
    yields (exec (.outWritePulse 1 1 1 1000 []) { up with timebase := 20000 }) (fun s =>
      (outputAt s 1).level && (outputAt s 1).pulse == some { endTime := 21000, restore := false }) = true := by decide +kernel

/-- 7.5: the second pulse at 10,200 keeps the restore level of the first; the toggle at 20,400 cancels the pulse. -/
theorem test_second_pulse_keeps_restore :
    (applyClaim 10200 (.pulse 1 true 500) (applyClaim 10000 (.pulse 1 true 500) Output.default)).pulse =
      some { endTime := 10700, restore := false } ∧
    yields (runAt [(20000, .outWritePulse 1 1 1 1000 []), (20400, .outWriteToggle 2 1 0 0 [])] up) (fun s =>
      outputAt s 1 == Output.default) = true := by decide +kernel

/-- 7.5, 2.6: OUT2 with policy DRIVE and OUT5 with policy HOLD at 600,000, the retries of C1 used up. -/
def beforeStall : State :=
  withOutput 2 { level := true, pulse := some { endTime := 800000, restore := false }, policy := .drive, safeLevel := false, locked := false }
    (withOutput 5 { level := true, pulse := some { endTime := 700000, restore := false }, policy := .hold, safeLevel := false, locked := false }
      (withClass 1 { ClassState.default 5 with
          retryCount := 3, frame := some { seq := 0, records := [edgeRecord 0], state := .waiting 600000 } }
        { up with timebase := 600000 }))

/-- 7.5: the safe state on OUT2 only; OUT_WRITE of both is refused LOCKED as a whole, OUT_CFG is refused STATE, RESUME unlocks. -/
theorem test_stall_with_two_lines :
    yields (exec (.retransmitTimerExpiry 1) beforeStall) (fun s =>
      s.link == .stalled && s.notices == [.stallRetry 1] && s.attn &&
        outputAt s 2 == { level := false, pulse := none, policy := .drive, safeLevel := false, locked := true } &&
        (outputAt s 5).pulse == some { endTime := 700000, restore := false } &&
        yields (exec (.outWriteSet 1 2 1 0 [⟨5, 0, 0, 0⟩]) s) (fun t =>
          t.replyQueue.map (·.status) == [.locked] && t.outputs == s.outputs) &&
        yields (exec (.outCfg 1 4 0 0) s) (fun t => t.replyQueue.map (·.status) == [.state]) &&
        yields (exec (.resume 1) s) (fun t => t.link == .up && !(outputAt t 2).locked && !(outputAt t 2).level)) = true := by decide +kernel

/-- 2.10: C2 at 20 ms, with the records 50 to 52. -/
def batchAt20ms : State :=
  withClass 2 { ClassState.default 20 with
      batchMin := 4, nextSeq := 9, nextNumber := 53
      unsent := [edgeRecord 50, { edgeRecord 51 with admittedAt := 3000 }, { edgeRecord 52 with admittedAt := 8000 }] }
    { calm with timebase := 20000 }

/-- 2.10: at 20.0 ms the frame with seq 9 is built from 50 to 52; at its end the timer is due 20 ms later; its expiry sends it again; the
ACK of seq 9 frees it. -/
theorem test_batch_retransmission_and_ack :
    yields (exec (.batchHoldReached 2) batchAt20ms) (fun s =>
      (inFlight (classAt s 2)).map (·.number) == [50, 51, 52] && (classAt s 2).nextSeq == 10 &&
        s.tx.map (fun x => (txChars x.frame, x.ends)) == some (33, 22864)) = true ∧
    yields (runAt [(20000, .batchHoldReached 2), (22864, .frameTransmitEnd)] batchAt20ms)
      (fun s => (classAt s 2).frame.map (·.state) == some (.waiting 42864)) = true ∧
    yields (runAt [(20000, .batchHoldReached 2), (22864, .frameTransmitEnd), (42864, .retransmitTimerExpiry 2)] batchAt20ms)
      (fun s => (classAt s 2).retryCount == 1 && (classAt s 2).frame.map (·.state) == some .sending && s.tx.isSome) = true ∧
    yields (runAt [(20000, .batchHoldReached 2), (22864, .frameTransmitEnd), (42864, .retransmitTimerExpiry 2), (47000, .ack 6 2 9)]
      batchAt20ms) (fun s => (classAt s 2).frame == none && (classAt s 2).retryCount == 0 && freeCount s == 128) = true := by
  decide +kernel

/-- 8.10: QUIET with wake class 1 holds the frame of C2; a record admitted to C3 does not assert ATTN, one admitted to C0 does. -/
theorem test_quiet_and_waking :
    let o : Content := { kind := .edge .rise, source := 0, timestamp := 0 }
    let s0 := withClass 2 { ClassState.default 20 with
      frame := some { seq := 14, records := [edgeRecord 0], state := .waiting 20000 } } up
    yields (exec (.quiet 1 1) s0) (fun s =>
      s.link == .quiet (some 1) && (classAt s 2).frame.map (·.state) == some .held && !s.attn &&
        !attnLevel (offer 3 o s) && attnLevel (offer 0 o s) &&
        yields (exec (.ack 6 2 14) s) (fun t => (classAt t 2).frame == none)) = true := by decide +kernel

/-- 9.7: OUT_READ requests of tags 20 to 28, with replies of tags 13 to 19 in the cache. -/
def burst : State :=
  { up with replyCache := [13, 14, 15, 16, 17, 18, 19].map (fun t =>
      { request := { tag := t, code := 0x32, params := [] }
        reply := { tag := t, code := 0x32, status := .ok, data := [], formed := true, rate := none } }) }

/-- 9.7, steps 1 to 9, and 10: the handler takes at each arrival while there is room, and takes tag 24 when the reply of tag 20 is selected;
tag 28, repeated after that, finds a place. -/
theorem test_queues_under_a_burst :
    let tags : List Byte := [20, 21, 22, 23, 24, 25, 26, 27, 28, 21, 26]
    let run := runAt (tags.map (fun t => (0, .outRead t))) burst
    yields run (fun s =>
      s.requestQueue.map (·.tag) == [24, 25, 26, 27] && s.replyQueue.map (·.tag) == [20, 21, 22, 23] &&
        s.replyCache.map (·.request.tag) == [16, 17, 18, 19, 20, 21, 22, 23] && s.discards == 1 &&
        yields (runAt [(694, .frameTransmitEnd)] s) (fun t =>
          t.requestQueue.map (·.tag) == [25, 26, 27] && t.replyQueue.map (·.tag) == [21, 22, 23, 24] &&
            t.replyCache.map (·.request.tag) == [17, 18, 19, 20, 21, 22, 23, 24] &&
            yields (exec (.requestFrame 28 0x32 []) t) (fun u =>
              u.requestQueue.map (·.tag) == [25, 26, 27, 28] && u.discards == 1))) = true := by decide +kernel

/-- R158: of five request frames that arrive with the transmitter BUSY the first four are taken and the fifth waits; it is taken at the
selection of the first reply. -/
theorem test_takes_at_arrival :
    yields (runAt (([1, 2, 3, 4, 5] : List Byte).map (fun t => (0, .requestFrame t 0x07 []))) up) (fun s =>
      s.replyQueue.map (·.tag) == [1, 2, 3, 4] && s.requestQueue.map (·.tag) == [5] && s.discards == 0 &&
        yields (runAt [(694, .frameTransmitEnd)] s) (fun t =>
          t.replyQueue.map (·.tag) == [2, 3, 4, 5] && t.requestQueue == [])) = true := by decide +kernel

/-- 11.1, steps 1 to 5: BOOT is selected at once; CHAN_CFG in DOWN is refused NO_SESSION; HELLO opens session 1. -/
theorem test_bring_up :
    yields (runAt [(10, .chanCfg 1 0 0 2 0 4 1 3 1), (20, .hello 2), (30, .chanCfg 1 0 0 2 0 4 1 3 1), (40, .linkCfg 3 6 20 3 20)] State.reset)
      (fun s =>
        s.tx.map (fun x => (x.frame, txChars x.frame)) == some (.notice .bootPower, 8) &&
          s.replyQueue.map (fun r => (r.tag, r.status)) == [(1, .noSession), (2, .ok), (1, .ok), (3, .ok)] &&
          (s.replyQueue.map (·.data))[1]? == some [1, 0x41, 16, 8, 4, 16, 4, 128] &&
          s.replyCache.map (·.request.tag) == [2, 1, 3] && s.link == .up && !s.attn && s.rate == 4 &&
          s.silenceDue == some 2000040) = true := by decide +kernel

/-- 11.1, step 6: at the last character of the LINK_CFG reply the rate is 460800 bit/s, and the gap limit is 217 us. -/
theorem test_rate_changes_after_the_reply :
    let r : Reply := { tag := 3, code := 0x03, status := .ok, data := [], formed := true, rate := some 6 }
    yields (exec .frameTransmitEnd { up with tx := some { frame := .reply r, ends := 694 } }) (fun s =>
      s.rate == 6 && s.tx == none && gapLimit s.rate == 217) = true := by decide +kernel

/-- R172, R178: a character at the moment of a rate change is dropped; a frame that was open then is abandoned and counted, once; one of 10
characters that ends 217 us after it at 460800 bit/s is taken. -/
theorem test_character_at_a_rate_change :
    let r : Reply := { tag := 3, code := 0x03, status := .ok, data := [], formed := true, rate := some 6 }
    let s0 : State := { up with tx := some { frame := .reply r, ends := 694 } }
    yields (runAt [(694, .frameTransmitEnd), (694, .characterReceived 0xB4), (694, .timeRead 9), (700, .timeRead 9)] s0) (fun s =>
      s.rate == 6 && s.rx == .hunt && s.discards == 1 && s.requestQueue == [] && s.replyQueue == []) = true ∧
    yields (runAt [(694, .frameTransmitEnd), (716, .characterReceived 0xB4)] s0) (fun s => s.rx == .length) = true ∧
    yields (runAt [(694, .frameTransmitEnd), (911, .outCfg 9 1 0 0)] s0) (fun s =>
      s.tx.isSome && s.replyCache.map (·.request.tag) == [9]) = true := by decide +kernel

/-- 11.3: the damaged ACK is discarded and counted and leaves the silence timer as it was. -/
theorem test_damaged_ack :
    let bytes : List Byte := [0xB4, 0x04, 0x52, 0x06, 0x02, 0x09, 0x45, 0xB3]
    let s0 := { up with silenceDue := some 5000, silenceLimit := 10 }
    yields (runAt (bytes.map (fun b => (100, .characterReceived b))) s0) (fun s =>
      s.discards == 1 && s.rx == .hunt && s.silenceDue == some 5000) = true ∧
    yields (runAt ((bytes.take 7).map (fun b => (100, .characterReceived b)) ++ [(200, .characterReceived 0xB2)]) s0) (fun s =>
      s.discards == 0 && s.silenceDue == some 1000200) = true := by decide +kernel

/-- R145, R153, R162, R176: a false frame with LEN 15 whose CRC fails holds a HELLO and a LINK_READ. Each is handled as if it were arriving
then: the HELLO reply begins and ATTN falls, and LINK_READ returns UP, session 1, ATTN 0, request and reply depth 0, one discard. -/
theorem test_rescan_of_two_requests :
    let frame (r : Request) := syncByte :: frameTail (requestBody r)
    let bytes := [syncByte, 15] ++ frame (helloRequest 1) ++ frame (linkReadRequest 2 0) ++ [0, 0]
    yields (runAt (bytes.map (fun b => (0, .characterReceived b))) { State.reset with notices := [] }) (fun s =>
      s.tx.map (·.frame) == some (.reply { tag := 1, code := 0x01, status := .ok, data := [1, 0x41, 16, 8, 4, 16, 4, 128], formed := true,
                                           rate := none }) &&
        s.replyQueue.map (·.data) == [[1, 1, 0xFF, 0, 4, 20, 3, 0, 0, 0, 0, 1]] && s.rx == .hunt && !s.attn) = true := by decide +kernel

/-- R152, R177: RESETn low and its release give BOOT PIN; the gap expiry drops the frame being collected. -/
theorem test_pin_reset_and_gap :
    yields (runAt [(5, .resetnLow), (0, .resetRelease)] up) (fun s => s.tx.map (·.frame) == some (.notice .bootPin) && s.attn) = true ∧
    yields (runAt [(0, .powerOnReset), (0, .resetnLow), (0, .resetRelease)] up) (fun s =>
      s.tx.map (·.frame) == some (.notice .bootPower)) = true ∧
    yields (runAt [(0, .characterReceived 0xB4), (868, .gapExpiry)] up) (fun s => s.rx == .hunt && s.discards == 1) = true := by
  decide +kernel


/-- 3.7, 5.7, 11.2: what CHAN_READ, TIMER_READ and CLASS_READ of the examples return. -/
theorem test_reads_of_the_examples :
    yields (runAt (filterSamples ++ [(1042, .chanRead 3 5)]) filterLine) (fun s =>
      s.replyQueue.getLast?.map (fun r => r.data.take 5) == some [2, 1, 0, 1, 1]) = true ∧
    yields (exec (.timerRead 1 0) { withTimer 0 { Timer.default with due := some 582704, period := 250000 } up with timebase := 400000 })
      (fun s => s.replyQueue.map (fun r => (r.data.drop 11).take 3) == [bytes24 182704]) = true ∧
    yields (exec (.classRead 1 1) (withClass 1 { ClassState.default 5 with
        unsent := [201, 202, 203, 204, 205].map edgeRecord, frame := some { seq := 5, records := [edgeRecord 200], state := .sending }
        lostPending := 4, nextNumber := 206, nextSeq := 6, limit := 6, frameMax := 4 } up))
      (fun s => s.replyQueue.map (fun r => r.data.take 4 ++ (r.data.drop 8).take 5) == [[5, 1, 5, 0, 0, 4, 0, 206, 6]]) = true := by
  decide +kernel

/-! ### Witnesses: states and operands that meet the hypotheses of the statements -/

/-- UP, RUNNING out of time: timer 3 due at the present 0, everything else quiet. -/
def dueNow : State := withTimer 3 { Timer.default with due := some 0 } up

theorem test_witness_EmptyQueueTakesWhatIsDueElseCountsOneMicrosecond :
    (dueNow.pending = [] ∧ dueNow.hardReset = none ∧ (dueCommands dueNow).head? = some (.timerExpiry 3)) ∧
    (State.reset.pending = [] ∧ State.reset.hardReset = none ∧ dueCommands State.reset = [] ∧ canSelect State.reset = true) ∧
    (up.pending = [] ∧ up.hardReset = none ∧ dueCommands up = [] ∧ canSelect up = false ∧ canTake up = false) := by decide +kernel

theorem test_witness_RequestFrameIsScreened :
    burst.hardReset = none ∧ canComplete (requestBody { tag := 13, code := 0x32, params := [] }) burst = true ∧
    canComplete (requestBody { tag := 1, code := 0x7F, params := List.replicate 247 0 }) up = true := by decide +kernel

theorem test_witness_GenericChecksRefuse :
    (requestOf (.chanRead 1 0) = some (chanReadRequest 1 0) ∧ Acceptable (chanReadRequest 1 0) State.reset ∧
      genericRefusal (chanReadRequest 1 0) State.reset = some .noSession) ∧
    (requestOf (.reactLoad 1 0 0 0 0 0 0 0 0 []) = some (reactLoadRequest 1 0 0 0 0 0 0 0 0 []) ∧
      Acceptable (reactLoadRequest 1 0 0 0 0 0 0 0 0 []) up ∧ genericRefusal (reactLoadRequest 1 0 0 0 0 0 0 0 0 []) up = some .length) ∧
    (requestOf (.unknownCodeRequest 1 0x08 []) = some { tag := 1, code := 0x08, params := [] } ∧
      Acceptable { tag := 1, code := 0x08, params := [] } up ∧ (0x08 : Byte) ∉ requestCodes ∧
      genericRefusal { tag := 1, code := 0x08, params := [] } up = some .unknown) := by
  unfold Acceptable; decide +kernel

theorem test_witness_EveryTakenRequestIsAnswered :
    (requestOf (.flush 1 3) = some (flushRequest 1 3) ∧ Acceptable (flushRequest 1 3) up) ∧
    (let s := { up with requestQueue := [timeReadRequest 9] };
      s.requestQueue ≠ [] ∧ s.replyQueue.length < 4 ∧ s.pendingReset = none ∧ s.requestQueue = timeReadRequest 9 :: []) := by
  unfold Acceptable; decide +kernel

/-- R161: a cache of 7, of 8, and of 8 with the tag already held. -/
theorem test_witness_cache :
    let e (tag : Byte) : CacheEntry :=
      { request := { tag := tag, code := 0x07, params := [] }
        reply := { tag := tag, code := 0x07, status := .ok, data := [], formed := true, rate := none } }
    let seven := [1, 2, 3, 4, 5, 6, 7].map e
    ((∀ x ∈ seven, x.request.tag ≠ (e 9).request.tag) ∧ seven.length < 8 ∧ cacheWith (e 9) seven = seven ++ [e 9]) ∧
    ((∀ x ∈ e 8 :: seven, x.request.tag ≠ (e 9).request.tag) ∧ (e 8 :: seven).length = 8 ∧
      cacheWith (e 9) (e 8 :: seven) = seven ++ [e 9]) ∧
    ((∀ x ∈ [e 8] ++ seven.tail, x.request.tag ≠ (e 1).request.tag) ∧ [e 8].length + seven.tail.length < 8 ∧
      cacheWith (e 1) ([e 8] ++ e 1 :: seven.tail) = [e 8] ++ seven.tail ++ [e 1]) := by decide +kernel

/-- A RESET waits for its reply to leave, with a TIME_READ behind it. -/
def resetPends : State := { up with pendingReset := some .link, requestQueue := [timeReadRequest 9] }

theorem test_witness_NoRequestIsTakenWhileResetPends :
    (requestOf (.timeRead 9) = some (timeReadRequest 9) ∧ resetPends.hardReset = none ∧ resetPends.pendingReset ≠ none ∧
      resetPends.requestQueue.head? = some (timeReadRequest 9)) ∧
    (requestOf (.timeRead 8) = some (timeReadRequest 8) ∧ resetPends.requestQueue.head? ≠ some (timeReadRequest 8) ∧
      canComplete (requestBody (timeReadRequest 8)) resetPends = true ∧ timeReadRequest 8 ∉ resetPends.requestQueue ∧
      resetPends.replyCache = [] ∧ resetPends.requestQueue.length < 4) := by decide +kernel

theorem test_witness_link_requests :
    Acceptable (helloRequest 1) State.reset ∧ Acceptable (helloRequest 1) up ∧
    Acceptable (resetRequest 1 0) up ∧ Acceptable (resetRequest 1 1) up ∧ Acceptable (resetRequest 1 2) State.reset ∧
    (Acceptable (resetRequest 1 3) up ∧ 3 ≤ (3 : Byte).toNat) := by unfold Acceptable; decide +kernel

theorem test_witness_LinkCfgSetsTheLink :
    up.link ≠ .down ∧
    (Acceptable (linkCfgRequest 1 7 1 15 0) up ∧ (7 : Byte) = byteOf (7 : RateCode).val ∧ (1 : Byte) ≠ 0 ∧ (15 : Byte).toNat ≤ 15) ∧
    (Acceptable (linkCfgRequest 1 8 1 0 0) up ∧ 8 ≤ (8 : Byte).toNat) ∧ Acceptable (linkCfgRequest 1 0 0 0 0) up ∧
    (Acceptable (linkCfgRequest 1 0 1 16 0) up ∧ 15 < (16 : Byte).toNat) := by unfold Acceptable; decide +kernel

theorem test_witness_LinkReadReturnsTheLink :
    up.link ≠ .down ∧ Acceptable (linkReadRequest 1 0) up ∧ Acceptable (linkReadRequest 1 1) up ∧
    (Acceptable (linkReadRequest 1 2) up ∧ 2 ≤ (2 : Byte).toNat) := by unfold Acceptable; decide +kernel

theorem test_witness_QuietHoldsDelivery :
    (up.link = .up ∧ Acceptable (quietRequest 1 3) up ∧ (3 : Byte) = byteOf (3 : Cls).val ∧ Acceptable (quietRequest 1 0xFF) up) ∧
    (Acceptable (quietRequest 1 4) up ∧ 4 ≤ (4 : Byte).toNat ∧ (4 : Byte) ≠ 0xFF) ∧
    (Acceptable (quietRequest 1 0xFF) { up with link := .stalled } ∧ ({ up with link := .stalled } : State).link ≠ .up) := by
  unfold Acceptable; decide +kernel

theorem test_witness_ResumeReturnsToUp :
    Acceptable (resumeRequest 1) up ∧ up.link = .up ∧ Acceptable (resumeRequest 1) { up with link := .quiet (some 0) } ∧
    Acceptable (resumeRequest 1) { up with link := .stalled } := by unfold Acceptable; decide +kernel

theorem test_witness_ReadsReturnPresentValues :
    up.link ≠ .down ∧ Acceptable (timeReadRequest 1) up ∧ Acceptable (outReadRequest 1) up ∧
    (Acceptable (chanReadRequest 1 15) up ∧ (15 : Byte) = byteOf (15 : ChannelId).val) ∧ Acceptable (chanReadRequest 1 16) up ∧
    (Acceptable (classReadRequest 1 3) up ∧ (3 : Byte) = byteOf (3 : Cls).val) ∧ Acceptable (classReadRequest 1 4) up ∧
    Acceptable (timerReadRequest 1 3) up ∧ Acceptable (timerReadRequest 1 4) up := by unfold Acceptable; and_intros <;> decide +kernel

theorem test_witness_ChanCfgSetsTheChannel :
    (Acceptable (chanCfgRequest 1 15 1 1 3 15 1 3 0xFFFF) up ∧ up.link ≠ .down ∧ (15 : Byte) = byteOf (15 : ChannelId).val ∧
      captureModeBytes (.width .low) = [1, 1] ∧ (3 : Byte) = byteOf (3 : Fin 4).val ∧ (1 : Byte) = flagByte true ∧
      (channelAt up 15).armed = false) ∧
    (let s := withChannel 15 { Channel.default with sampler := .settling, armed := true } up;
      Acceptable (chanCfgRequest 1 15 1 1 3 15 1 3 0xFFFF) s ∧ (channelAt s 15).armed = true) ∧
    Acceptable (chanCfgRequest 1 16 0 0 0 1 0 0 1) up ∧ Acceptable (chanCfgRequest 1 0 1 2 0 1 0 0 1) up ∧
    Acceptable (chanCfgRequest 1 0 0 0 4 1 0 0 1) up ∧ Acceptable (chanCfgRequest 1 0 0 0 0 0 0 0 1) up ∧
    Acceptable (chanCfgRequest 1 0 0 0 0 16 0 0 1) up ∧ Acceptable (chanCfgRequest 1 0 0 0 0 1 2 0 1) up ∧
    Acceptable (chanCfgRequest 1 0 0 0 0 1 0 4 1) up ∧ Acceptable (chanCfgRequest 1 0 0 0 0 1 0 0 0) up := by
  unfold Acceptable; and_intros <;> decide +kernel

/-- Mode WIDTH has no select 2. -/
theorem test_witness_ChanCfgSetsTheChannel_mode : ∀ m, captureModeBytes m ≠ [1, 2] := by
  intro m; cases m <;> rename_i x <;> cases x <;> decide

theorem test_witness_ChanCtlActsOnTheMask :
    up.link ≠ .down ∧
    (Acceptable (chanCtlRequest 1 0x8001 0) up ∧ Acceptable (chanCtlRequest 1 0x8001 1) up ∧ Acceptable (chanCtlRequest 1 0x8001 2) up ∧
      Acceptable (chanCtlRequest 1 0x8001 3) up ∧ Acceptable (chanCtlRequest 1 0x8001 4) up) ∧
    (∃ i : ChannelId, (0x8001 : Word16).getLsbD i.val = true ∧ (channelAt up i).sampler = .off) ∧
    (let s := withChannel 15 { Channel.default with sampler := .stable true } up;
      Acceptable (chanCtlRequest 1 0x8000 2) s ∧
        ¬ ∃ i : ChannelId, (0x8000 : Word16).getLsbD i.val = true ∧ (channelAt s i).sampler = .off) ∧
    (Acceptable (chanCtlRequest 1 0x8001 5) up ∧ 5 ≤ (5 : Byte).toNat ∧ up.requestQueue = []) := by
  unfold Acceptable; and_intros <;> decide +kernel

theorem test_witness_ClassCfgSetsTheClass :
    up.link ≠ .down ∧
    (Acceptable (classCfgRequest 1 0 128 8 255 8 16) up ∧ (0 : Byte) = byteOf (0 : Cls).val ∧ (128 : Byte).toNat ≤ 128 ∧
      (8 : Byte).toNat ≤ 8 ∧ (16 : Byte).toNat ≤ 16 ∧ occupancy (classAt up 0) ≤ 128) ∧
    (Acceptable (classCfgRequest 1 3 94 1 0 1 0) nearlyFull ∧ ¬ occupancy (classAt nearlyFull 3) ≤ (94 : Byte).toNat) ∧
    (Acceptable (classCfgRequest 1 0 1 1 0 1 6) nearlyFull ∧
      ¬ occupancy (classAt nearlyFull 1) + occupancy (classAt nearlyFull 2) + occupancy (classAt nearlyFull 3) ≤ 128 - (6 : Byte).toNat) ∧
    Acceptable (classCfgRequest 1 4 1 1 0 1 0) up ∧ Acceptable (classCfgRequest 1 0 129 1 0 1 0) up ∧
    Acceptable (classCfgRequest 1 0 1 2 0 1 0) up ∧ Acceptable (classCfgRequest 1 0 1 1 0 9 0) up ∧
    Acceptable (classCfgRequest 1 0 1 1 0 1 17) up := by unfold Acceptable; and_intros <;> decide +kernel

theorem test_witness_FlushEmptiesTheClass :
    nearlyFull.link ≠ .down ∧ (Acceptable (flushRequest 1 3) nearlyFull ∧ (3 : Byte) = byteOf (3 : Cls).val) ∧
    Acceptable (flushRequest 1 4) nearlyFull := by unfold Acceptable; decide +kernel

theorem test_witness_TimerCfgSetsAnIdleTimer :
    (Acceptable (timerCfgRequest 1 3 1 0xFFFFFF 1 3) up ∧ up.link ≠ .down ∧ (3 : Byte) = byteOf (3 : TimerId).val ∧
      (1 : Byte) = timerModeByte .periodic ∧ (1 : Byte) = flagByte true ∧ (timerAt up 3).due = none) ∧
    (Acceptable (timerCfgRequest 1 3 0 1 0 0) dueNow ∧ (timerAt dueNow 3).due ≠ none) ∧
    Acceptable (timerCfgRequest 1 4 0 1 0 0) up ∧ Acceptable (timerCfgRequest 1 0 2 1 0 0) up ∧
    Acceptable (timerCfgRequest 1 0 0 0 0 0) up ∧ Acceptable (timerCfgRequest 1 0 0 1 2 0) up ∧
    Acceptable (timerCfgRequest 1 0 0 1 0 4) up := by unfold Acceptable; and_intros <;> decide +kernel

theorem test_witness_TimerCtlStartsAndStops :
    up.link ≠ .down ∧ (Acceptable (timerCtlRequest 1 15 0) up ∧ Acceptable (timerCtlRequest 1 15 1) up ∧ (15 : Byte).toNat < 16) ∧
    (Acceptable (timerCtlRequest 1 16 0) up ∧ Acceptable (timerCtlRequest 1 16 1) up ∧ 16 ≤ (16 : Byte).toNat) ∧
    (Acceptable (timerCtlRequest 1 16 2) up ∧ 2 ≤ (2 : Byte).toNat ∧ up.requestQueue = []) := by
  unfold Acceptable; and_intros <;> decide +kernel

/-- The contents of REACT_LOAD with entry 15, trigger CHANNEL 15 BELOW 16,777,215 and the one action POST C3, tag 9. -/
theorem test_witness_ReactLoadWritesTheEntry :
    let contents := contentsOf 0 15 4 0xFFFFFF 255 3 1 [⟨10, 3, 9, 0, 0, 0⟩]
    let r := reactLoadRequest 1 15 0 15 4 0xFFFFFF 255 3 1 [⟨10, 3, 9, 0, 0, 0⟩]
    (Acceptable r up ∧ up.link ≠ .down ∧ (15 : Byte) = byteOf (15 : EntryId).val ∧
      contents = some { source := .channel 15, qualifier := .below, width := 0xFFFFFF, fireLimit := 255, doneClass := 3, reportDone := true,
                        actions := [{ action := .post 3 9, unused := [0, 0, 0] }] } ∧ (entryAt up 15).state = .empty) ∧
    (let s := withEntry 15 { state := .armed (passContents .any 0 false [.out (.toggle 0)]), remaining := 0, fires := 0 } up;
      Acceptable r s ∧ (entryAt s 15).state = .armed (passContents .any 0 false [.out (.toggle 0)])) ∧
    Acceptable (reactLoadRequest 1 16 0 15 4 0 0 0 0 [⟨2, 0, 0, 0, 0, 0⟩]) up ∧
    (Acceptable (reactLoadRequest 1 0 1 4 0 0 0 0 0 [⟨2, 0, 0, 0, 0, 0⟩]) up ∧
      contentsOf 1 4 0 0 0 0 0 [⟨2, 0, 0, 0, 0, 0⟩] = none) := by unfold Acceptable; decide +kernel

theorem test_witness_ReactCtlActsOnTheMask :
    passStart.link ≠ .down ∧
    (Acceptable (reactCtlRequest 1 0x8000 0) passStart ∧ ∃ i : EntryId, (0x8000 : Word16).getLsbD i.val = true ∧
      (entryAt passStart i).state = .empty) ∧
    (Acceptable (reactCtlRequest 1 0x0212 0) passStart ∧ ¬ ∃ i : EntryId, (0x0212 : Word16).getLsbD i.val = true ∧
      (entryAt passStart i).state = .empty) ∧
    Acceptable (reactCtlRequest 1 0x8002 1) passStart ∧ Acceptable (reactCtlRequest 1 0x8002 2) passStart ∧
    (Acceptable (reactCtlRequest 1 0x8000 3) passStart ∧ 3 ≤ (3 : Byte).toNat ∧ passStart.requestQueue = []) := by
  unfold Acceptable; and_intros <;> decide +kernel

theorem test_witness_ReactReadReturnsTheEntry :
    passStart.link ≠ .down ∧ (Acceptable (reactReadRequest 1 15) passStart ∧ (entryAt passStart 15).state = .empty) ∧
    (Acceptable (reactReadRequest 1 9) passStart ∧
      (entryAt passStart 9).state = .disarmed (passContents .any 0 false [.out (.set 5 true)])) ∧
    Acceptable (reactReadRequest 1 16) passStart ∧ 16 ≤ (16 : Byte).toNat := by unfold Acceptable; decide +kernel

theorem test_witness_OutWriteClaimsTheLines :
    up.link ≠ .down ∧
    (Acceptable (outWriteRequest 1 [⟨7, 0, 1, 0⟩, ⟨7, 2, 0, 1⟩]) up ∧
      [(⟨7, 0, 1, 0⟩ : OutOpBytes), ⟨7, 2, 0, 1⟩].map outOpOf = [OutOp.set 7 true, .pulse 7 false 1].map some ∧
      ∀ op ∈ [OutOp.set 7 true, .pulse 7 false 1], (outputAt up (opLine op)).locked = false) ∧
    (let s := withOutput 7 { Output.default with policy := .drive, locked := true } { up with link := .stalled };
      Acceptable (outWriteRequest 1 [⟨7, 1, 0, 0⟩]) s ∧ [(⟨7, 1, 0, 0⟩ : OutOpBytes)].map outOpOf = [OutOp.toggle 7].map some ∧
        ∃ op ∈ [OutOp.toggle 7], (outputAt s (opLine op)).locked = true) ∧
    (Acceptable (outWriteRequest 1 [⟨7, 2, 1, 0⟩]) up ∧ ∃ b ∈ [(⟨7, 2, 1, 0⟩ : OutOpBytes)], outOpOf b = none) ∧
    (Acceptable (outWriteRequest 1 [⟨8, 0, 1, 0⟩]) up ∧ outOpOf ⟨8, 0, 1, 0⟩ = none) ∧
    (Acceptable (outWriteRequest 1 [⟨0, 3, 1, 0⟩]) up ∧ 3 ≤ (3 : Byte).toNat ∧ up.requestQueue = []) := by unfold Acceptable; and_intros <;> decide +kernel

theorem test_witness_OutCfgSetsPolicyAndSafeLevel :
    (Acceptable (outCfgRequest 1 0x81 1 1) up ∧ up.link ≠ .down ∧ (1 : Byte) = policyByte .drive ∧ (1 : Byte) = flagByte true ∧
      up.link ≠ .stalled) ∧
    Acceptable (outCfgRequest 1 0x81 1 1) { up with link := .stalled } ∧
    Acceptable (outCfgRequest 1 0x81 2 0) up ∧ Acceptable (outCfgRequest 1 0x81 0 2) up := by unfold Acceptable; decide +kernel

theorem test_witness_WellFormedRequestsFitTheirLength :
    (Instr.outWriteToggle 1 0 0 0 (List.replicate 7 ⟨0, 0, 0, 0⟩)).wellFormed = true ∧
    (requestOf (.outWriteToggle 1 0 0 0 (List.replicate 7 ⟨0, 0, 0, 0⟩))).isSome = true ∧
    requestOf (.reset 1 0) = some (resetRequest 1 0) ∧ (resetRequest 1 0).code ∈ requestCodes := by decide +kernel

/-- R182: lengths at and just outside the figures, for fixed lengths and for counts at both ends of their ranges. -/
theorem test_lengths :
    lengthFits 0x10 (List.replicate 9 0) = true ∧ lengthFits 0x10 (List.replicate 8 0) = false ∧ lengthFits 0x01 [0] = false ∧
    lengthFits 0x28 (List.replicate 10 0 ++ [4] ++ List.replicate 24 0) = true ∧
    lengthFits 0x28 (List.replicate 10 0 ++ [5] ++ List.replicate 30 0) = false ∧ lengthFits 0x28 (List.replicate 11 0) = false ∧
    lengthFits 0x30 (8 :: List.replicate 48 0) = true ∧ lengthFits 0x30 (9 :: List.replicate 54 0) = false ∧
    lengthFits 0x30 [0] = false ∧ lengthFits 0x30 (2 :: List.replicate 6 0) = false := by decide +kernel

theorem test_witness_EntryLayoutReadsBack :
    actionUsedBytes (.out (.pulse 7 true 1)) <+: [3, 7, 1, 0, 0, 1] ∧ actionUsedBytes (.out (.toggle 7)) <+: [2, 7, 99, 99, 99, 99] ∧
    sourceBytes (passContents .rise 0 false [.out (.toggle 7)]).source = [0, 7] ∧
    [(⟨2, 7, 0, 0, 0, 0⟩ : ActionBytes)].map loadedActionOf = (passContents .rise 0 false [.out (.toggle 7)]).actions.map some ∧
    loadedActionOf ⟨2, 7, 99, 98, 97, 96⟩ = some { action := .out (.toggle 7), unused := [99, 98, 97, 96] } ∧ (1 : Word24) ≠ 0 := by
  decide +kernel

/-- R182, R183: an OUT_TOGGLE loaded with stray bytes after its line is returned as loaded. -/
theorem test_action_is_returned_as_loaded :
    yields (runAt [(0, .reactLoad 1 2 0 0 0 0 0 0 0 [⟨2, 7, 99, 98, 97, 96⟩]), (0, .reactRead 2 2)] up) (fun s =>
      s.replyQueue.map (·.data.drop 14) == [[], [2, 7, 99, 98, 97, 96]]) = true := by decide +kernel

/-- Bytes at the ends of their ranges, each inside and just outside, for the readings of actions, operations and contents. -/
theorem test_witness_ranges :
    (ActionInRange ⟨3, 7, 1, 0, 0, 1⟩ ∧ ¬ ActionInRange ⟨3, 7, 1, 0, 0, 0⟩ ∧ ¬ ActionInRange ⟨0, 0, 0, 0, 0, 0⟩ ∧
      ActionInRange ⟨10, 3, 255, 0, 0, 0⟩ ∧ ¬ ActionInRange ⟨11, 0, 0, 0, 0, 0⟩ ∧ ¬ ActionInRange ⟨9, 16, 0, 0, 0, 0⟩) ∧
    (OutOpInRange ⟨7, 1, 255, 0⟩ ∧ OutOpInRange ⟨7, 2, 1, 1⟩ ∧ ¬ OutOpInRange ⟨7, 2, 1, 0⟩ ∧ ¬ OutOpInRange ⟨8, 0, 0, 0⟩ ∧
      ¬ OutOpInRange ⟨0, 3, 0, 1⟩ ∧ ¬ OutOpInRange ⟨0, 0, 2, 0⟩) ∧
    contentsOf 1 3 0 0 0 3 1 [] ≠ none ∧ contentsOf 1 4 0 0 0 3 1 [] = none ∧ contentsOf 1 3 1 0 0 3 1 [] = none ∧
    contentsOf 0 15 4 0 0 3 1 [] ≠ none ∧ contentsOf 0 15 5 0 0 3 1 [] = none ∧ contentsOf 0 16 0 0 0 3 1 [] = none ∧
    contentsOf 2 0 0 0 0 3 1 [] = none ∧ contentsOf 0 0 0 0 0 4 1 [] = none ∧ contentsOf 0 0 0 0 0 0 2 [] = none := by
  and_intros <;> decide +kernel

/-- UP with frame 14 of C2 in flight. -/
def inFlight14 : State :=
  withClass 2 { ClassState.default 20 with frame := some { seq := 14, records := [edgeRecord 0], state := .waiting 20000 } } up

theorem test_witness_AckFreesTheFrameItNames :
    inFlight14.hardReset = none ∧
    (canComplete [0x52, 6, 2, 14] inFlight14 = true ∧ (2 : Byte) = byteOf (2 : Cls).val ∧ inFlight14.link = .up ∧
      (6 : Byte) = inFlight14.session ∧
      (classAt inFlight14 2).frame = some { seq := 14, records := [edgeRecord 0], state := .waiting 20000 }) ∧
    (canComplete [0x52, 5, 2, 14] inFlight14 = true ∧ (5 : Byte) ≠ inFlight14.session) ∧
    (canComplete [0x52, 6, 4, 14] inFlight14 = true ∧ 4 ≤ (4 : Byte).toNat) ∧
    (canComplete [0x52, 6, 2, 13] inFlight14 = true ∧ ∀ f, (classAt inFlight14 2).frame = some f → f.seq ≠ 13) := by
  refine ⟨by decide +kernel, by decide +kernel, by decide +kernel, by decide +kernel, by decide +kernel, ?_⟩
  intro f h
  have : (classAt inFlight14 2).frame = some { seq := 14, records := [edgeRecord 0], state := .waiting 20000 } := by decide +kernel
  rw [this] at h; cases h; decide

theorem test_witness_SoundFramesOfNoUseAreCounted :
    up.hardReset = none ∧ ([6, 2] : List Byte).length ≠ 3 ∧ canComplete (0x52 :: [6, 2]) up = true ∧
    (0x53 : Byte) ≠ 0x51 ∧ (0x53 : Byte) ≠ 0x52 ∧ canComplete (0x53 :: List.replicate 249 0) up = true := by decide +kernel

/-- The receiver after SYNC, and after all but the last character of an ACK. -/
def afterSync : State := { up with rx := .length, gapDue := some 868 }
def beforeLastCharacter : State := { up with rx := .check, candidate := [0x04, 0x52, 0x06, 0x02, 0x09, 0x45], gapDue := some 868 }

theorem test_witness_DiscardsAreCountedAndRescanned :
    (afterSync.rx = .length ∧ afterSync.candidate = [] ∧ (2 : Byte).toNat < 3 ∧ 250 < (251 : Byte).toNat) ∧
    (beforeLastCharacter.rx = .check ∧ beforeLastCharacter.candidate.length = candidateLen beforeLastCharacter + 2 ∧
      (beforeLastCharacter.candidate ++ [0xB3]).drop (candidateLen beforeLastCharacter + 1) ≠
        bytes16 (crc (beforeLastCharacter.candidate.take (candidateLen beforeLastCharacter + 1))) ∧
      syncByte ∉ beforeLastCharacter.candidate ++ [0xB3]) ∧
    (afterSync.rx ≠ .hunt ∧ syncByte ∉ afterSync.candidate) ∧
    (charactersFit 1 afterSync = true ∧ charactersFit 1 up = true ∧ up.rx = .hunt ∧ up.rxHeld = false) ∧
    ({ afterSync with rxHeld := true } : State).rxHeld = true ∧
    (let s := { afterSync with timebase := 868 }; s.gapDue = some s.timebase) := by decide +kernel

/-- What a rescan from HUNT may meet: bytes with no SYNC, a LEN at each end of its range and just outside, a whole frame, a wrong CRC. -/
theorem test_witness_rescan :
    (up.rx = .hunt ∧ up.candidate = [] ∧ up.gapDue = none ∧ syncByte ∉ ([0x51, 0] : List Byte)) ∧
    (3 ≤ (3 : Byte).toNat ∧ (250 : Byte).toNat ≤ 250 ∧ ([0x51, 1] : List Byte).length < (3 : Byte).toNat) ∧
    ((3 : Byte).toNat ≤ ([0x51, 1, 7] : List Byte).length ∧ ([0x51, 1, 7, 0] : List Byte).length < (3 : Byte).toNat + 2) ∧
    ((2 : Byte).toNat < 3 ∧ 250 < (251 : Byte).toNat ∧ [0, 0] ≠ bytes16 (crc [3, 0x51, 1, 7])) ∧
    feed 868 3 ([0x51, 0] ++ [syncByte, 4, 0x52]) up = { up with rx := .body, candidate := [4, 0x52], gapDue := some 868 } := by
  decide +kernel

/-- At 460800 bit/s nine bit times are 19.5 us; 2 % less, 19.1 us, and one microsecond of rounding leave 19 us. -/
theorem test_witness_charactersFit :
    let s (now : Time) : State := { up with rate := 6, rateChange := some { time := 100, frameCounted := false }, timebase := now }
    let late (now : Time) (bits : Nat) : Prop := bitRate (s now).rate * ((now - 100).toNat + 1) < 980000 * bits
    charactersFit 1 (s 117) = false ∧ charactersFit 1 (s 119) = true ∧ (s 117).rateChange = some { time := 100, frameCounted := false } ∧
    late 117 9 ∧ (s 117).rx = .hunt ∧
    (late 200 (10 * (([] : List Byte).length + 6)) ∧ late 240 (10 * (([] : List Byte).length + 7) - 1) ∧
      ¬ late 240 (10 * (([] : List Byte).length + 6)) ∧ ¬ late 250 (10 * (([] : List Byte).length + 7) - 1)) := by
  and_intros <;> decide +kernel

theorem test_witness_CharacterMovesTheReceiver :
    up.rx = .hunt ∧ (afterSync.rx = .length ∧ 3 ≤ (3 : Byte).toNat ∧ (250 : Byte).toNat ≤ 250) ∧
    (let s := { up with rx := .body, candidate := [3, 0x51] }; s.rx = .body ∧ s.candidate.length ≠ candidateLen s) ∧
    (let s := { up with rx := .body, candidate := [3, 0x51, 1] }; s.rx = .body ∧ s.candidate.length = candidateLen s) ∧
    (let s := { up with rx := .check, candidate := [3, 0x51, 1, 7] }; s.rx = .check ∧ s.candidate.length = candidateLen s + 1) ∧
    (beforeLastCharacter.rx = .check ∧ beforeLastCharacter.candidate ++ [0xB2] = frameTail [0x52, 6, 2, 9]) := by decide +kernel

theorem test_witness_FrameIsReceivedByItsCharacters :
    up.rx = .hunt ∧ up.candidate = [] ∧ up.gapDue = none ∧ charactersFit 1 up = true ∧ 3 ≤ ([0x51, 1, 7] : List Byte).length ∧
    (List.replicate 250 (0 : Byte)).length ≤ 250 := by decide +kernel

theorem test_witness_RescanRunsOut :
    ReceiverSafe beforeLastCharacter ∧ ReceiverSafe up ∧ ReceiverSafe afterSync ∧ beforeLastCharacter.rx ≠ .hunt := by
  refine ⟨?_, ?_, ?_, by decide⟩ <;> simp only [ReceiverSafe, beforeLastCharacter, up, afterSync, State.reset, State.defaults, candidateLen] <;> decide

/-- UP with the report of frame 14 of C2 on TXD. -/
def reporting : State :=
  withClass 2 { ClassState.default 20 with frame := some { seq := 14, records := [edgeRecord 0], state := .sending } }
    { up with tx := some { frame := .report 6 2 14 [edgeRecord 0], ends := 1476 } }

theorem test_witness_TransmitEndReturnsToTheOwner :
    (reporting.hardReset = none ∧ reporting.tx = some { frame := .report 6 2 14 [edgeRecord 0], ends := 1476 } ∧ reporting.link = .up ∧
      (classAt reporting 2).frame = some { seq := 14, records := [edgeRecord 0], state := .sending }) ∧
    ({ reporting with link := .quiet none } : State).link = .quiet none ∧
    (classAt { up with tx := reporting.tx } 2).frame = none ∧
    up.tx = some { frame := .notice .bootPower, ends := 694 } := by decide +kernel

theorem test_witness_ResetAndRateTakeEffectAfterTheReply :
    let r (code : Byte) (rate : Option RateCode) : Reply := { tag := 3, code := code, status := .ok, data := [], formed := true, rate := rate }
    let sending (code : Byte) (rate : Option RateCode) : State := { up with tx := some { frame := .reply (r code rate), ends := 694 } }
    ((sending 3 (some 4)).rate = 4 ∧ (sending 3 (some 7)).rate ≠ 7 ∧ (sending 3 (some 7)).rx = .hunt ∧
      ({ sending 3 (some 7) with rx := .length } : State).rx ≠ .hunt) ∧
    ({ sending 2 none with pendingReset := some .link } : State).pendingReset = some .link ∧
    (r 2 none).formed = true ∧ (r 2 none).status = .ok := by decide +kernel

theorem test_witness_SampleCountsTowardTheRun :
    let settling (n : Nat) := withChannel 5 { Channel.default with
      sampler := .settling, run := if n = 0 then none else some { level := true, length := n, start := 0 } } up
    let stable := withChannel 5 { Channel.default with sampler := .stable true } up
    (up.hardReset = none ∧ sampleDue up.timebase (channelAt (settling 2) 5) = true ∧ (channelAt (settling 2) 5).sampler = .settling ∧
      (runAfter 0 true (channelAt (settling 2) 5)).length < (channelAt (settling 2) 5).filterCount.toNat) ∧
    (channelAt (settling 3) 5).filterCount.toNat ≤ (runAfter 0 true (channelAt (settling 3) 5)).length ∧
    (sampleDue stable.timebase (channelAt stable 5) = true ∧ (channelAt stable 5).sampler = .stable (!false) ∧
      (runAfter 0 false (channelAt stable 5)).length < (channelAt stable 5).filterCount.toNat) := by decide +kernel

/-- R53: no sample in OFF, none at 6 with the interval 4 us, none a second time at 8. -/
theorem test_witness_no_sample :
    let s (c : Channel) (now : Time) : State := withChannel 5 c { up with timebase := now }
    let c : Channel := { Channel.default with sampler := .stable true, interval := 1 }
    (s Channel.default 8).hardReset = none ∧ (channelAt (s Channel.default 8) 5).sampler = .off ∧
    (s c 6).timebase.toNat % 4 ^ (channelAt (s c 6) 5).interval.val ≠ 0 ∧
    (channelAt (s { c with instantTaken := some 8 } 8) 5).instantTaken = some (s c 8).timebase ∧ sampleDue 8 c = true := by decide +kernel

theorem test_witness_EdgeIsRecognizedAndHandedOver :
    let s (armed : Bool) := withChannel 5 { Channel.default with
      sampler := .stable false, run := some { level := true, length := 3, start := 0 }, armed := armed } up
    ((s true).hardReset = none ∧ (channelAt (s true) 5).sampler = .stable false ∧ sampleDue 0 (channelAt (s true) 5) = true ∧
      (channelAt (s true) 5).filterCount.toNat ≤ (runAfter 0 true (channelAt (s true) 5)).length ∧ (channelAt (s true) 5).armed = true) ∧
    (channelAt (s false) 5).armed = false := by decide +kernel

theorem test_witness_capture_modes :
    let edge := withChannel 0 { Channel.default with mode := .edge .rise } up
    let width (m : Option Measurement) := withChannel 0 { Channel.default with mode := .width .low, measurement := m } up
    let count (n : Word16) := withChannel 0 { Channel.default with mode := .count .both, threshold := 0xFFFF, count := n } up
    let m : Measurement := { lead := 5, saturated := false, saturationPoint := 0 }
    (channelAt edge 0).mode = .edge .rise ∧
    ((channelAt (width none) 0).mode = .width .low ∧ (channelAt (width none) 0).measurement = none) ∧
    ((channelAt (width (some m)) 0).measurement = some m ∧ (width (some m)).hardReset = none ∧
      m.saturationPoint = (width (some m)).timebase) ∧
    ((channelAt (count 0xFFFE) 0).mode = .count .both ∧ (channelAt (count 0xFFFE) 0).count + 1 = (channelAt (count 0xFFFE) 0).threshold ∧
      (channelAt (count 0) 0).count + 1 ≠ (channelAt (count 0) 0).threshold) := by decide +kernel

theorem test_witness_points_of_time :
    (dueNow.hardReset = none ∧ (timerAt dueNow 3).due = some dueNow.timebase) ∧
    (let s := withOutput 7 { Output.default with level := true, pulse := some { endTime := 0, restore := false } } up;
      s.hardReset = none ∧ (outputAt s 7).pulse = some { endTime := 0, restore := false } ∧ (0 : Time) = s.timebase) ∧
    (outputAt up 7).pulse = none ∧
    (beforeStall.link = .up ∧
      (classAt beforeStall 1).frame = some { seq := 0, records := [edgeRecord 0], state := .waiting beforeStall.timebase } ∧
      beforeStall.retryLimit.toNat ≤ (classAt beforeStall 1).retryCount ∧
      (classAt beforeStall 1).retryCount < ({ beforeStall with retryLimit := 4 } : State).retryLimit.toNat) ∧
    (let s := { up with silenceDue := some 0, silenceLimit := 1 }; s.link = .up ∧ s.silenceDue = some s.timebase) := by decide +kernel

/-- R146: a STALL notice joins behind BOOT, and replaces a STALL notice in its place. -/
theorem test_witness_notices :
    let stall := fun m : Notice => m = .stallSilence ∨ ∃ k, m = .stallRetry k
    (¬ stall .bootPin ∧ placeNotice .stallSilence [.bootPin] = [.bootPin, .stallSilence]) ∧
    (stall (.stallRetry 3) ∧ stall .stallSilence ∧
      placeNotice (.stallRetry 2) [.stallSilence, .bootPin] = [.stallRetry 2, .bootPin] ∧
      ({ up with notices := [.bootPin, .stallRetry 3] } : State).notices = [.bootPin] ++ .stallRetry 3 :: []) := by decide +kernel

/-- Batch_min 4 with three records at 20 ms, at 19 ms when the oldest is one millisecond too young, and batch_min 3 at 19 ms. -/
theorem test_witness_BatchHoldBuildsAReport :
    let early := { batchAt20ms with timebase := 19999 }
    let x := classAt batchAt20ms 2
    (batchAt20ms.hardReset = none ∧ batchAt20ms.tx = none ∧ batchAt20ms.replyQueue = [] ∧ batchAt20ms.notices = [] ∧
      batchAt20ms.link = .up ∧ x.frame = none ∧ x.unsent = edgeRecord 50 :: x.unsent.tail ∧ canTake batchAt20ms = false ∧
      ∀ c' : Cls, c' ≠ 2 → offersFrame c' batchAt20ms = false) ∧
    x.batchHold.toNat * 1000 ≤ (batchAt20ms.timebase - (edgeRecord 50).admittedAt).toNat ∧
    (¬ x.batchMin.toNat ≤ x.unsent.tail.length + 1 ∧ (edgeRecord 50).aged = false ∧
      ¬ x.batchHold.toNat * 1000 ≤ (early.timebase - (edgeRecord 50).admittedAt).toNat ∧
      (∀ c' : Cls, c' ≠ 2 → offersFrame c' early = false) ∧ ready 2 early = false) ∧
    ready 2 (withClass 2 { x with batchMin := 3 } early) = true := by and_intros <;> decide +kernel

theorem test_witness_HardResetHoldsAndReleases :
    let s := { State.reset with hardReset := some .pin }
    s.hardReset = some .pin ∧ Instr.resume 1 ≠ .powerOnReset ∧ Instr.resume 1 ≠ .resetnLow ∧ Instr.resume 1 ≠ .resetRelease := by
  decide +kernel

/-- Free 5 with reserve 4 admits to C3, free 4 does not; a class at its limit is refused (1.5). -/
theorem test_witness_OffersAreAdmittedOrCounted :
    let s := nearlyFull
    (occupancy (classAt s 3) < (classAt s 3).limit.toNat ∧ s.reserve.toNat < 128 - storedCount s) ∧
    (let t := withClass 0 { ClassState.default 0 with unsent := [edgeRecord 0] } s;
      occupancy (classAt t 2) < (classAt t 2).limit.toNat ∧ ¬ t.reserve.toNat < 128 - storedCount t ∧ 0 < 128 - storedCount t) := by
  decide +kernel

theorem test_witness_ArbiterTakesRepliesThenNoticesThenClasses :
    let r : Reply := { tag := 1, code := 0x07, status := .ok, data := [], formed := true, rate := none }
    up.tx ≠ none ∧ ({ calm with replyQueue := [r], notices := [.stallSilence] } : State).replyQueue = r :: [] ∧
    (State.reset.tx = none ∧ State.reset.replyQueue = [] ∧ State.reset.notices = .bootPower :: []) ∧
    (calm.replyQueue = [] ∧ calm.notices = [] ∧ ∀ c : Cls, offersFrame c calm = false) ∧
    (ready 2 batchAt20ms = true ∧ (classAt batchAt20ms 2).frame = none ∧ batchAt20ms.tx = none) ∧
    (let f : InFlight := { seq := 3, records := [edgeRecord 0], state := .resend };
      let s := withClass 3 { ClassState.default 100 with frame := some f } calm
      (classAt s 3).frame = some f ∧ f.state = .resend ∧ ∀ c' : Cls, c' < 3 → offersFrame c' s = false) := by decide +kernel

/-- 6.5: RX1 is the lowest candidate, RX9 is none. -/
theorem test_witness_FiringPassFiresCandidatesOnce :
    let ev : Content := { kind := .edge .rise, source := 7, timestamp := 2000000 }
    isCandidate ev passStart 1 = true ∧ isCandidate ev passStart 9 = false ∧ (∀ j : EntryId, j < 1 → isCandidate ev passStart j = false) ∧
    (∀ i, isCandidate { ev with source := 8 } passStart i = false) := by decide +kernel

/-- R102, R103: a width of w meets AT_LEAST w and not BELOW w; one less the reverse; a saturated width; no width for RISE; an expiry. -/
theorem test_witness_triggers :
    let ev (k : RecordKind) : Content := { kind := k, source := 3, timestamp := 0 }
    let c (q : Qualifier) (w : Word24) : EntryContents := { passContents q 0 false [.post 0 0] with source := .channel 3, width := w }
    let wide (w : Word24) := ev (.width .low w false)
    [matchesTrigger (wide 100) (c .atLeast 100), matchesTrigger (wide 99) (c .atLeast 100), matchesTrigger (wide 100) (c .below 100),
      matchesTrigger (wide 99) (c .below 100), matchesTrigger (wide 16777215) (c .atLeast 16777215),
      matchesTrigger (wide 16777215) (c .below 16777215), matchesTrigger (wide 5) (c .rise 5),
      matchesTrigger (ev (.edge .fall)) (c .fall 0), matchesTrigger (ev (.count 7)) (c .any 0), matchesTrigger (ev (.expiry 7)) (c .any 0),
      matchesTrigger (ev (.expiry 7)) { c .any 0 with source := .timer 3 }, matchesTrigger (wide 5) { c .any 0 with source := .channel 4 }] =
    [true, false, false, true, true, false, false, true, true, false, true, false] := by decide +kernel

/-- The candidates of 6.5 in ascending index, and a pass of two, the first of which disarms the second, which then does not fire (R112). -/
theorem test_witness_disarmed_candidate :
    let ev : Content := { kind := .edge .rise, source := 7, timestamp := 2000000 }
    let armed (a : Action) : Entry := { state := .armed (passContents .any 0 false [a]), remaining := 0, fires := 5 }
    let s := withEntry 2 (armed (.reactDisarm 15)) (withEntry 15 (armed (.out (.set 0 true))) up)
    let t := firingPass ev s
    (([1, 4, 6] : List EntryId).Pairwise (· < ·) ∧ (∀ i, i ∈ ([1, 4, 6] : List EntryId) ↔ isCandidate ev passStart i = true)) ∧
    (∀ i, isCandidate ev s i = true ↔ i = 2 ∨ i = 15) ∧
    (entryAt t 2).fires = 6 ∧ (entryAt t 15).fires = 5 ∧ (outputAt t 0).level = false ∧
    (entryAt t 15).state = .disarmed (passContents .any 0 false [.out (.set 0 true)]) := by decide +kernel

theorem test_witness_EntryRunsItsActionThenSpendsTheFiring :
    let s (fireLimit remaining : Byte) (a : Action) :=
      withEntry 15 { state := .armed (passContents .any fireLimit true [a]), remaining := remaining, fires := 0xFFFF } up
    (entryAt (s 0 0 (.out (.set 7 true))) 15).state = .armed (passContents .any 0 true [.out (.set 7 true)]) ∧
    ((passContents .any 0 true [.out (.toggle 7), .out (.pulse 7 true 1)]).actions.map (·.action) =
      [.out (.toggle 7), .out (.pulse 7 true 1)] ∧ (outputAt up 7).locked = false ∧ (channelAt up 15).sampler = .off) ∧
    (let ran := ((passContents .any 2 true [.reactDisarm 15, .reactArm 15]).actions.map (·.action)).foldl
        (acted { kind := .done, source := 0, timestamp := 0 } 15)
        (withEntry 15 { state := .armed (passContents .any 2 true [.reactDisarm 15, .reactArm 15]), remaining := 1, fires := 0 } up);
      (entryAt ran 15).state = .armed (passContents .any 2 true [.reactDisarm 15, .reactArm 15]) ∧ (entryAt ran 15).remaining = 2) ∧
    (entryAt (s 3 2 (.timerStart 3)) 15).remaining ≠ 1 ∧ (entryAt (s 3 1 (.post 3 9)) 15).remaining = 1 ∧
    (entryAt (s 0 0 (.reactDisarm 15)) 15).state = .armed (passContents .any 0 true [.reactDisarm 15]) := by decide +kernel

/-- A state far from reset that meets the conditions on the pool and on the handler, from which a step answers a next state. -/
theorem test_witness_invariants :
    PoolSafe nearlyFull ∧ HandlerSafe burst ∧ yields (step burst) (fun t => t.timebase == 1) = true := by
  refine ⟨?_, ?_, by decide +kernel⟩
  · unfold PoolSafe; decide +kernel
  · unfold HandlerSafe; decide +kernel

theorem test_witness_numbering_delivery_locks :
    NumberingSafe nearlyFull ∧ LocksSafe up ∧ AttnSafe up ∧ SilenceSafe up := by
  refine ⟨?_, ?_, ?_, ?_⟩
  · intro c; unfold ConsecutiveNumbers; revert c; decide +kernel
  · unfold LocksSafe; decide +kernel
  · unfold AttnSafe; decide +kernel
  · unfold SilenceSafe; decide +kernel

theorem test_witness_DeliverySafe : DeliverySafe reporting := by
  have h : ∀ c : Cls, c ≠ 2 → (classAt reporting c).frame = none ∧ (classAt reporting c).retryCount = 0 := by decide +kernel
  have h2 : (classAt reporting 2).frame = some { seq := 14, records := [edgeRecord 0], state := .sending } := by decide +kernel
  have hm : ∀ c : Cls, 1 ≤ (classAt reporting c).frameMax.toNat ∧ (classAt reporting c).frameMax.toNat ≤ 8 := by decide +kernel
  intro c
  refine ⟨(hm c).1, (hm c).2, ?_⟩
  by_cases hc : c = 2
  · subst hc
    rw [h2]
    exact ⟨by decide, by decide, Or.inl rfl, 6, [edgeRecord 0], 1476, rfl⟩
  · rw [(h c hc).1]; exact (h c hc).2

/-- Timer 3 due now, a frame being collected, a rate change just past, and channel 5 measuring, two samples into a run. -/
def inTime : State :=
  withChannel 5 { Channel.default with
      sampler := .stable true, interval := 1, run := some { level := false, length := 2, start := 4294967288 }, mode := .width .low
      armed := true, measurement := some { lead := 0, saturated := false, saturationPoint := 16777215 }, instantTaken := some 4294967292 }
    { dueNow with gapDue := some 868, rx := .length, rateChange := some { time := 0, frameCounted := true } }

theorem test_witness_TimesAhead : TimesAhead inTime ∧ inTime.hardReset = none := by
  refine ⟨⟨?_, ?_, ?_, ?_, ?_, ?_, ?_, ?_, ?_, ?_⟩, by decide +kernel⟩
  · have h : ∀ t : TimerId, (timerAt inTime t).due = none ∨ (timerAt inTime t).due = some 0 := by decide +kernel
    intro t d hd
    rcases h t with h | h
    · rw [h] at hd; cases hd
    · rw [h] at hd; cases hd; exact Nat.zero_le _
  · have h : ∀ l : LineId, (outputAt inTime l).pulse = none := by decide +kernel
    intro l p hp; rw [h l] at hp; cases hp
  · have h : ∀ c : Cls, (classAt inTime c).frame = none := by decide +kernel
    intro c f d hf; rw [h c] at hf; cases hf
  · intro d hd; cases hd
  · intro d hd; cases hd; decide +kernel
  · have h : ∀ i : ChannelId, (channelAt inTime i).measurement = none ∨
        (channelAt inTime i).measurement = some { lead := 0, saturated := false, saturationPoint := 16777215 } := by decide +kernel
    intro i m hm _
    rcases h i with h | h
    · rw [h] at hm; cases hm
    · rw [h] at hm; cases hm; decide +kernel
  · have h : ∀ i : ChannelId, i ≠ 5 → (channelAt inTime i).run = none := by decide +kernel
    intro i r hr
    by_cases hi : i = 5
    · subst hi; cases hr; exact ⟨by decide +kernel, by decide, by decide +kernel, by decide +kernel, 4294967292, rfl, by decide +kernel,
        by decide +kernel⟩
    · rw [h i hi] at hr; cases hr
  · intro x hx; cases hx; decide +kernel
  · intro t ht; cases ht; decide +kernel
  · intro h; cases h

theorem test_witness_channels_and_entries : (∀ i, i ≠ 5 → channelAt filterLine i = Channel.default) ∧ EntriesSafe up := by
  refine ⟨by decide +kernel, ?_⟩
  have h : ∀ i : EntryId, entryAt up i = Entry.default := by decide +kernel
  intro i; rw [h i]; exact ⟨rfl, rfl⟩

end Sys2Proof.Tests
end

section
/-! SUPPORT. CLASS_CFG (R20, R21): what its checks say, what it sets, and its outcome when it is taken at once. -/

namespace Sys2Proof.Machine

open Sys2Proof

/-- Only C0 has the byte 0. -/
theorem byteOf_cls_eq_zero_iff (c : Cls) : byteOf c.val = 0 ↔ c = 0 := by
  revert c; decide

/-! ### The checks of R21 -/

/-- R21, checks 2 to 4. That frame_max is at least 1 and batch_min at most 8 follows from the order of the two. -/
theorem classValuesInRange_iff (c : Cls) (limit batchMin frameMax reserve : Byte) :
    classValuesInRange c limit batchMin frameMax reserve = true ↔
      1 ≤ limit.toNat ∧ limit.toNat ≤ 128 ∧ 1 ≤ batchMin.toNat ∧ frameMax.toNat ≤ 8 ∧ batchMin.toNat ≤ frameMax.toNat ∧
        (c = 0 → reserve.toNat ≤ 16) := by
  simp only [classValuesInRange, Bool.and_eq_true, Bool.or_eq_true, bne_iff_ne, decide_eq_true_eq, ne_eq, ← imp_iff_not_or]
  constructor
  · rintro ⟨⟨⟨⟨⟨hl, hl'⟩, hb, -⟩, -, hf⟩, hr⟩, hbf⟩
    exact ⟨hl, hl', hb, hf, hbf, hr⟩
  · rintro ⟨hl, hl', hb, hf, hbf, hr⟩
    exact ⟨⟨⟨⟨⟨hl, hl'⟩, hb, hbf.trans hf⟩, hb.trans hbf, hf⟩, hr⟩, hbf⟩

/-- R21, checks 5 and 6. -/
theorem occupancyFits_iff (c : Cls) (limit reserve : Byte) (s : State) :
    occupancyFits c limit reserve s = true ↔
      occupancy (classAt s c) ≤ limit.toNat ∧
        (c = 0 → occupancy (classAt s 1) + occupancy (classAt s 2) + occupancy (classAt s 3) ≤ 128 - reserve.toNat) := by
  simp only [occupancyFits, Bool.and_eq_true, Bool.or_eq_true, bne_iff_ne, decide_eq_true_eq, ne_eq, ← imp_iff_not_or]
  rfl

@[simp] theorem occupancyFits_executing (c : Cls) (limit reserve : Byte) (r : Request) (s : State) :
    occupancyFits c limit reserve (executing r s) = occupancyFits c limit reserve s := by
  simp [occupancyFits]

/-! ### What CLASS_CFG sets (R20) -/

/-- R20 as one update of the state. -/
theorem configureClass_eq (c : Cls) (limit batchMin batchHold frameMax reserve : Byte) (s : State) :
    configureClass c limit batchMin batchHold frameMax reserve s =
      { s with
          classes := s.classes.set c
            { classAt s c with limit := limit, batchMin := batchMin, batchHold := batchHold, frameMax := frameMax }
          reserve := if c = 0 then reserve else s.reserve } := by
  unfold configureClass
  by_cases hc : c = 0
  · simp only [hc, if_true]; rfl
  · simp only [hc, if_false]; rfl

/-- CLASS_CFG acts on the classes and the reserve alone, wherever the transmitter and the queues stand. -/
theorem configureClass_executing (c : Cls) (limit batchMin batchHold frameMax reserve : Byte) (r : Request) (s : State) :
    configureClass c limit batchMin batchHold frameMax reserve (executing r s) =
      whileExecuting s (configureClass c limit batchMin batchHold frameMax reserve (arrived r s)) := by
  rw [configureClass_eq, configureClass_eq]; rfl

theorem configureClass_arrived_ownerFrame (c : Cls) (limit batchMin batchHold frameMax reserve : Byte) (r : Request) (s : State) :
    OwnerFrame s { configureClass c limit batchMin batchHold frameMax reserve (arrived r s) with
      rx := s.rx, candidate := s.candidate, gapDue := s.gapDue, rxHeld := s.rxHeld } := by
  rw [configureClass_eq]
  exact (arrived_ownerFrame r s).trans ⟨rfl, rfl, rfl, rfl, rfl, rfl, rfl, rfl, rfl, rfl, rfl, rfl, rfl, rfl, rfl⟩

/-! ### CLASS_CFG at its owner -/

section
variable {c : Cls} {cls limit batchMin batchHold frameMax reserve : Byte} {s : State}

theorem ownerClassCfg_eq_accept (hrange : classValuesInRange c limit batchMin frameMax reserve = true)
    (hfits : occupancyFits c limit reserve s = true) :
    ownerClassCfg (byteOf c.val) limit batchMin batchHold frameMax reserve s =
      accept (configureClass c limit batchMin batchHold frameMax reserve s) [] := by
  simp [ownerClassCfg, indexOf_byteOf, hrange, hfits]

theorem ownerClassCfg_eq_refuse_occupied (hrange : classValuesInRange c limit batchMin frameMax reserve = true)
    (hfits : ¬ occupancyFits c limit reserve s = true) :
    ownerClassCfg (byteOf c.val) limit batchMin batchHold frameMax reserve s = refuse .occupied s := by
  simp [ownerClassCfg, indexOf_byteOf, hrange, hfits]

/-- R21, checks 1 to 4: RANGE, whatever the occupancy. -/
theorem ownerClassCfg_eq_refuse_range
    (h : ∀ k : Cls, cls = byteOf k.val → ¬ classValuesInRange k limit batchMin frameMax reserve = true) :
    ownerClassCfg cls limit batchMin batchHold frameMax reserve s = refuse .range s := by
  unfold ownerClassCfg
  cases hk : indexOf 4 cls with
  | none => rfl
  | some k => simp [h k (indexOf_some hk).2]

end

/-! ### CLASS_CFG taken at once -/

section
variable {c : Cls} {tag cls limit batchMin batchHold frameMax reserve : Byte} {s : State}

theorem execute_classCfg (hd : s.link ≠ .down) :
    let r := classCfgRequest tag cls limit batchMin batchHold frameMax reserve
    execute r (executing r s) = ownerClassCfg cls limit batchMin batchHold frameMax reserve (executing r s) :=
  execute_owner (by simp [classCfgRequest, requestCodes]) rfl (.inl hd)

theorem exec_classCfg_accepted (ha : Acceptable (classCfgRequest tag (byteOf c.val) limit batchMin batchHold frameMax reserve) s)
    (hd : s.link ≠ .down) (hrange : classValuesInRange c limit batchMin frameMax reserve = true)
    (hfits : occupancyFits c limit reserve s = true) :
    let r := classCfgRequest tag (byteOf c.val) limit batchMin batchHold frameMax reserve
    exec (.classCfg tag (byteOf c.val) limit batchMin batchHold frameMax reserve) s =
      acceptedWith r [] s (configureClass c limit batchMin batchHold frameMax reserve (arrived r s)) := by
  refine exec_answered rfl ha ?_ (configureClass_arrived_ownerFrame _ _ _ _ _ _ _ s)
  rw [execute_classCfg hd, ownerClassCfg_eq_accept hrange (by simpa using hfits), configureClass_executing]
  rfl

theorem exec_classCfg_occupied (ha : Acceptable (classCfgRequest tag (byteOf c.val) limit batchMin batchHold frameMax reserve) s)
    (hd : s.link ≠ .down) (hrange : classValuesInRange c limit batchMin frameMax reserve = true)
    (hfits : ¬ occupancyFits c limit reserve s = true) :
    exec (.classCfg tag (byteOf c.val) limit batchMin batchHold frameMax reserve) s =
      refusedWith (classCfgRequest tag (byteOf c.val) limit batchMin batchHold frameMax reserve) .occupied s :=
  exec_refused rfl ha ((execute_classCfg hd).trans (ownerClassCfg_eq_refuse_occupied hrange (by simpa using hfits)))

theorem exec_classCfg_range (ha : Acceptable (classCfgRequest tag cls limit batchMin batchHold frameMax reserve) s)
    (hd : s.link ≠ .down) (h : ∀ k : Cls, cls = byteOf k.val → ¬ classValuesInRange k limit batchMin frameMax reserve = true) :
    exec (.classCfg tag cls limit batchMin batchHold frameMax reserve) s =
      refusedWith (classCfgRequest tag cls limit batchMin batchHold frameMax reserve) .range s :=
  exec_refused rfl ha ((execute_classCfg hd).trans (ownerClassCfg_eq_refuse_range h))

end

/-- Settles O17: the checks of R21 in their order select one of the three outcomes of CLASS_CFG. -/
theorem classCfgSetsTheClass : Obligations.ClassCfgSetsTheClass := by
  intro tag cls limit batchMin batchHold frameMax reserve s r i ha hd inRange
  have hvalues : ∀ c : Cls, cls = byteOf c.val → (classValuesInRange c limit batchMin frameMax reserve = true ↔ inRange) := by
    rintro c rfl
    rw [classValuesInRange_iff, ← byteOf_cls_eq_zero_iff]
  refine ⟨?_, fun hbad => exec_classCfg_range ha hd ?_⟩
  · rintro c rfl hin
    have hrange := (hvalues c rfl).mpr hin
    refine ⟨fun hfits => ?_, fun hfits => ?_⟩
    · have hexec := exec_classCfg_accepted ha hd hrange ((occupancyFits_iff c limit reserve s).mpr hfits)
      simpa only [configureClass_eq, arrived_classes, classAt_arrived, arrived_reserve] using hexec
    · exact exec_classCfg_occupied ha hd hrange (mt (occupancyFits_iff c limit reserve s).mp hfits)
  · intro k hk hrange
    rcases hbad with hcls | hout
    · have hnone := indexOf_none 4 cls hcls
      rw [hk, indexOf_byteOf 4 (by decide)] at hnone
      cases hnone
    · exact hout ((hvalues k hk).mp hrange)

end Sys2Proof.Machine
end

section
/-! SUPPORT. TIMER_CFG (R95): what its checks say, what it sets, and its outcome when it is taken at once. -/

namespace Sys2Proof.Machine

open Sys2Proof

/-! ### The checks of R95 -/

theorem timerModeOf_timerModeByte (m : TimerMode) : timerModeOf (timerModeByte m) = some m := by cases m <;> rfl

theorem timerModeOf_none (b : Byte) (h : 2 ≤ b.toNat) : timerModeOf b = none := by
  have h0 : b ≠ 0 := by rintro rfl; exact absurd h (by decide)
  have h1 : b ≠ 1 := by rintro rfl; exact absurd h (by decide)
  simp only [timerModeOf, h0, h1, if_false]

/-- R95, checks 1 and 2: the bytes of a timer and its settings pass, and read back. -/
theorem timerSettings_of_bytes (t : TimerId) (m : TimerMode) {period : Word24} (rep : Bool) (k : Cls) (hp : period ≠ 0) :
    timerSettings (byteOf t.val) (timerModeByte m) period (flagByte rep) (byteOf k.val) = some (t, m, rep, k) := by
  simp only [timerSettings, indexOf_byteOf 4 (by decide), timerModeOf_timerModeByte, flagOf_flagByte, if_neg hp]

/-- R95, checks 1 and 2: any one value out of range fails them. -/
theorem timerSettings_none {timer mode : Byte} {period : Word24} {report cls : Byte}
    (h : 4 ≤ timer.toNat ∨ 2 ≤ mode.toNat ∨ period = 0 ∨ 2 ≤ report.toNat ∨ 4 ≤ cls.toNat) :
    timerSettings timer mode period report cls = none := by
  unfold timerSettings
  split
  next ht hm hr hk =>
    rcases h with h | h | h | h | h
    · rw [indexOf_none 4 timer h] at ht; cases ht
    · rw [timerModeOf_none mode h] at hm; cases hm
    · exact if_pos h
    · rw [flagOf_none report h] at hr; cases hr
    · rw [indexOf_none 4 cls h] at hk; cases hk
  · rfl

/-! ### TIMER_CFG at its owner -/

section
variable {t : TimerId} {timer mode : Byte} {m : TimerMode} {period : Word24} {report cls : Byte} {rep : Bool} {k : Cls} {s : State}

theorem ownerTimerCfg_eq_accept (hset : timerSettings timer mode period report cls = some (t, m, rep, k))
    (hidle : (timerAt s t).due = none) :
    ownerTimerCfg timer mode period report cls s =
      accept (setTimer t { timerAt s t with mode := m, period := period, report := rep, cls := k } s) [] := by
  simp [ownerTimerCfg, hset, hidle]

theorem ownerTimerCfg_eq_refuse_active (hset : timerSettings timer mode period report cls = some (t, m, rep, k))
    (hrunning : (timerAt s t).due ≠ none) :
    ownerTimerCfg timer mode period report cls s = refuse .active s := by
  simp [ownerTimerCfg, hset, Option.isSome_iff_ne_none, hrunning]

theorem ownerTimerCfg_eq_refuse_range (hset : timerSettings timer mode period report cls = none) :
    ownerTimerCfg timer mode period report cls s = refuse .range s := by
  simp [ownerTimerCfg, hset]

end

/-! ### TIMER_CFG taken at once -/

/-- A timer is set wherever the transmitter and the queues stand. -/
theorem setTimer_executing (t : TimerId) (x : Timer) (r : Request) (s : State) :
    setTimer t x (executing r s) = whileExecuting s (setTimer t x (arrived r s)) := rfl

theorem setTimer_arrived_ownerFrame (t : TimerId) (x : Timer) (r : Request) (s : State) :
    OwnerFrame s { setTimer t x (arrived r s) with rx := s.rx, candidate := s.candidate, gapDue := s.gapDue, rxHeld := s.rxHeld } :=
  (arrived_ownerFrame r s).trans ⟨rfl, rfl, rfl, rfl, rfl, rfl, rfl, rfl, rfl, rfl, rfl, rfl, rfl, rfl, rfl⟩

section
variable {t : TimerId} {tag timer mode : Byte} {m : TimerMode} {period : Word24} {report cls : Byte} {rep : Bool} {k : Cls} {s : State}

/-- With a session TIMER_CFG reaches its owner, its period put together again from its three bytes. -/
theorem execute_timerCfg (hd : s.link ≠ .down) :
    let r := timerCfgRequest tag timer mode period report cls
    execute r (executing r s) = ownerTimerCfg timer mode period report cls (executing r s) := by
  intro r
  have howner : execute r (executing r s) = ownerOf r.code r.params (executing r s) :=
    execute_owner (by simp [r, timerCfgRequest, requestCodes]) rfl (.inl hd)
  conv_rhs => rw [← join24_bytes24 period]
  exact howner

theorem exec_timerCfg_accepted (ha : Acceptable (timerCfgRequest tag timer mode period report cls) s) (hd : s.link ≠ .down)
    (hset : timerSettings timer mode period report cls = some (t, m, rep, k)) (hidle : (timerAt s t).due = none) :
    let r := timerCfgRequest tag timer mode period report cls
    exec (.timerCfg tag timer mode period report cls) s =
      acceptedWith r [] s (setTimer t { timerAt s t with mode := m, period := period, report := rep, cls := k } (arrived r s)) := by
  refine exec_answered rfl ha ?_ (setTimer_arrived_ownerFrame t _ _ s)
  rw [execute_timerCfg hd, ownerTimerCfg_eq_accept hset (by simpa using hidle), timerAt_executing, setTimer_executing]
  rfl

theorem exec_timerCfg_active (ha : Acceptable (timerCfgRequest tag timer mode period report cls) s) (hd : s.link ≠ .down)
    (hset : timerSettings timer mode period report cls = some (t, m, rep, k)) (hrunning : (timerAt s t).due ≠ none) :
    exec (.timerCfg tag timer mode period report cls) s =
      refusedWith (timerCfgRequest tag timer mode period report cls) .active s :=
  exec_refused rfl ha ((execute_timerCfg hd).trans (ownerTimerCfg_eq_refuse_active hset (by simpa using hrunning)))

theorem exec_timerCfg_range (ha : Acceptable (timerCfgRequest tag timer mode period report cls) s) (hd : s.link ≠ .down)
    (hset : timerSettings timer mode period report cls = none) :
    exec (.timerCfg tag timer mode period report cls) s =
      refusedWith (timerCfgRequest tag timer mode period report cls) .range s :=
  exec_refused rfl ha ((execute_timerCfg hd).trans (ownerTimerCfg_eq_refuse_range hset))

end

/-- Settles O19: the checks of R95 in their order, RANGE before ACTIVE, select one of the three outcomes of TIMER_CFG. -/
theorem timerCfgSetsAnIdleTimer : Obligations.TimerCfgSetsAnIdleTimer := by
  intro tag timer mode period report cls s r i ha hd
  refine ⟨?_, fun hbad => exec_timerCfg_range ha hd (timerSettings_none hbad)⟩
  rintro t m rep k rfl rfl hp rfl rfl
  have hset := timerSettings_of_bytes t m rep k hp
  refine ⟨fun hidle => ?_, exec_timerCfg_active ha hd hset⟩
  have hexec := exec_timerCfg_accepted ha hd hset hidle
  simpa only [setTimer, arrived_timers] using hexec

end Sys2Proof.Machine
end

section
/-! SUPPORT. PULSE_END (R124): the end of a pulse in each of its cases, and its outcome. -/

namespace Sys2Proof.Machine

open Sys2Proof

section
variable {l : LineId} {s : State}

/-- R124: a pulse that has reached its end time leaves its line at the restore level. -/
theorem pulseEnds_of_due {p : Pulse} (hp : (outputAt s l).pulse = some p) (ht : p.endTime = s.timebase) :
    pulseEnds l s = { s with outputs := s.outputs.set l { outputAt s l with level := p.restore, pulse := none } } := by
  simp only [pulseEnds, endPulse, hp, if_pos ht]
  rfl

/-- Log 1: a pulse that has not reached its end time does not end. -/
theorem pulseEnds_of_not_due {p : Pulse} (hp : (outputAt s l).pulse = some p) (ht : p.endTime ≠ s.timebase) : pulseEnds l s = s := by
  simp only [pulseEnds, hp, if_neg ht]

theorem pulseEnds_of_absent (hp : (outputAt s l).pulse = none) : pulseEnds l s = s := by
  simp only [pulseEnds, hp]

end

/-- The end of a pulse acts on the outputs alone, wherever the transmitter and the queues stand. -/
theorem pulseEnds_frame (l : LineId) (s : State) : ∃ outputs, ∀ tx replies notices,
    pulseEnds l { s with tx := tx, replyQueue := replies, notices := notices } =
      { s with tx := tx, replyQueue := replies, notices := notices, outputs := outputs } := by
  cases hp : (outputAt s l).pulse with
  | none => exact ⟨s.outputs, fun _ _ _ => pulseEnds_of_absent hp⟩
  | some p =>
    by_cases ht : p.endTime = s.timebase
    · exact ⟨s.outputs.set l { outputAt s l with level := p.restore, pulse := none }, fun _ _ _ => pulseEnds_of_due hp ht⟩
    · exact ⟨s.outputs, fun _ _ _ => pulseEnds_of_not_due hp ht⟩

/-- The end of a pulse does not meet what the arbiter selects before it. -/
theorem exec_pulseEnd (l : LineId) {s : State} (hs : s.hardReset = none) :
    exec (.pulseEnd l) s = .next (settle (pulseEnds l s)) := by
  obtain ⟨outputs, hframe⟩ := pulseEnds_frame l s
  have hself : pulseEnds l s = { s with outputs := outputs } := hframe s.tx s.replyQueue s.notices
  refine event_eq_settle (pulseEnds l) s hs (fun _ _ _ => ?_) ?_ ?_ ?_ ?_ ?_ ?_
  · rw [hframe, hself]
  all_goals rw [hself]

/-- Settles O42: the end of a pulse leaves its line at the restore level, and nothing ends on a line without a pulse. -/
theorem pulseEndRestoresTheLine : Obligations.PulseEndRestoresTheLine := by
  intro l s hs
  refine ⟨fun p hp ht => ?_, fun hp => ?_⟩
  · rw [exec_pulseEnd l hs, pulseEnds_of_due hp ht]
  · rw [exec_pulseEnd l hs, pulseEnds_of_absent hp]

end Sys2Proof.Machine
end

section
/-! SUPPORT. OUT_CFG (R130): what its checks say, what it sets, and its outcome when it is taken at once. -/

namespace Sys2Proof.Machine

open Sys2Proof

/-! ### The range check of R130 -/

theorem policyOf_policyByte (p : Policy) : policyOf (policyByte p) = some p := by cases p <;> rfl

theorem policyOf_none (b : Byte) (h : 2 ≤ b.toNat) : policyOf b = none := by
  have h0 : b ≠ 0 := by rintro rfl; exact absurd h (by decide)
  have h1 : b ≠ 1 := by rintro rfl; exact absurd h (by decide)
  simp only [policyOf, h0, h1, if_false]

/-! ### What OUT_CFG sets -/

/-- R130: the outputs, with policy and safe level set on the lines of the mask and the other lines as they were. -/
def configuredOutputs (mask : Byte) (p : Policy) (v : Bool) (s : State) : Vector Output 8 :=
  Vector.ofFn (fun l => if mask.getLsbD l.val then { outputAt s l with policy := p, safeLevel := v } else outputAt s l)

/-- R130 as one update of the outputs. -/
theorem configureLines_eq (mask : Byte) (p : Policy) (v : Bool) (s : State) :
    allLines.foldl (fun s l => if mask.getLsbD l.val then configureLine p v l s else s) s =
      { s with outputs := configuredOutputs mask p v s } :=
  foldLines_eq (fun l => mask.getLsbD l.val) (configureLine p v) (fun o => { o with policy := p, safeLevel := v }) s
    (fun _ _ => rfl)

@[simp] theorem configuredOutputs_executing (mask : Byte) (p : Policy) (v : Bool) (r : Request) (s : State) :
    configuredOutputs mask p v (executing r s) = configuredOutputs mask p v s := by
  simp only [configuredOutputs, outputAt_executing]

theorem withOutputs_arrived_ownerFrame (outputs : Vector Output 8) (r : Request) (s : State) :
    OwnerFrame s { arrived r s with
      outputs := outputs, rx := s.rx, candidate := s.candidate, gapDue := s.gapDue, rxHeld := s.rxHeld } :=
  (arrived_ownerFrame r s).trans ⟨rfl, rfl, rfl, rfl, rfl, rfl, rfl, rfl, rfl, rfl, rfl, rfl, rfl, rfl, rfl⟩

/-! ### OUT_CFG at its owner -/

section
variable {mask policy safeLevel : Byte} {p : Policy} {v : Bool} {s : State}

theorem ownerOutCfg_eq_accept (hlink : s.link ≠ .stalled) :
    ownerOutCfg mask (policyByte p) (flagByte v) s =
      accept { s with outputs := configuredOutputs mask p v s } [] := by
  simp only [ownerOutCfg, policyOf_policyByte, flagOf_flagByte, if_neg hlink, configureLines_eq]

theorem ownerOutCfg_eq_refuse_state (hlink : s.link = .stalled) :
    ownerOutCfg mask (policyByte p) (flagByte v) s = refuse .state s := by
  simp only [ownerOutCfg, policyOf_policyByte, flagOf_flagByte, if_pos hlink]

/-- RANGE, whatever the link state. -/
theorem ownerOutCfg_eq_refuse_range (h : 2 ≤ policy.toNat ∨ 2 ≤ safeLevel.toNat) :
    ownerOutCfg mask policy safeLevel s = refuse .range s := by
  unfold ownerOutCfg
  split
  next hp hv =>
    rcases h with h | h
    · rw [policyOf_none policy h] at hp; cases hp
    · rw [flagOf_none safeLevel h] at hv; cases hv
  · rfl

end

/-! ### OUT_CFG taken at once -/

section
variable {tag mask policy safeLevel : Byte} {p : Policy} {v : Bool} {s : State}

theorem execute_outCfg (hd : s.link ≠ .down) :
    let r := outCfgRequest tag mask policy safeLevel
    execute r (executing r s) = ownerOutCfg mask policy safeLevel (executing r s) :=
  execute_owner (by simp [outCfgRequest, requestCodes]) rfl (.inl hd)

theorem exec_outCfg_accepted (ha : Acceptable (outCfgRequest tag mask (policyByte p) (flagByte v)) s) (hd : s.link ≠ .down)
    (hlink : s.link ≠ .stalled) :
    let r := outCfgRequest tag mask (policyByte p) (flagByte v)
    exec (.outCfg tag mask (policyByte p) (flagByte v)) s =
      acceptedWith r [] s { arrived r s with outputs := configuredOutputs mask p v s } := by
  refine exec_answered rfl ha ?_ (withOutputs_arrived_ownerFrame _ _ s)
  rw [execute_outCfg hd, ownerOutCfg_eq_accept (by simpa using hlink), configuredOutputs_executing]
  rfl

theorem exec_outCfg_stalled (ha : Acceptable (outCfgRequest tag mask (policyByte p) (flagByte v)) s) (hd : s.link ≠ .down)
    (hlink : s.link = .stalled) :
    exec (.outCfg tag mask (policyByte p) (flagByte v)) s =
      refusedWith (outCfgRequest tag mask (policyByte p) (flagByte v)) .state s :=
  exec_refused rfl ha ((execute_outCfg hd).trans (ownerOutCfg_eq_refuse_state (by simpa using hlink)))

theorem exec_outCfg_range (ha : Acceptable (outCfgRequest tag mask policy safeLevel) s) (hd : s.link ≠ .down)
    (h : 2 ≤ policy.toNat ∨ 2 ≤ safeLevel.toNat) :
    exec (.outCfg tag mask policy safeLevel) s = refusedWith (outCfgRequest tag mask policy safeLevel) .range s :=
  exec_refused rfl ha ((execute_outCfg hd).trans (ownerOutCfg_eq_refuse_range h))

end

/-- Settles O25: the checks of R130 in their order, RANGE before STATE, select one of the three outcomes of OUT_CFG. -/
theorem outCfgSetsPolicyAndSafeLevel : Obligations.OutCfgSetsPolicyAndSafeLevel := by
  intro tag mask policy safeLevel s ha hd r
  refine ⟨?_, exec_outCfg_range ha hd⟩
  rintro p v rfl rfl
  exact ⟨exec_outCfg_accepted ha hd, exec_outCfg_stalled ha hd⟩

end Sys2Proof.Machine
end

section
/-! SUPPORT. What a step can do, said once: the elementary changes of the state, and that every step is a run of them. An invariant of
Safety.lean is then a case analysis over the changes, and not over the 53 commands. -/

namespace Sys2Proof.Machine

open Sys2Proof

/-! ### The elementary changes -/

/-- R177: the gap timer is due at most one longest gap limit from now. -/
def GapAhead (s : State) : Prop := ∀ d, s.gapDue = some d → (d - s.timebase).toNat ≤ 10417

/-- R53: the channel with the sample of the present instant noted. -/
def notedSample (now : Time) (level : Bool) (c : Channel) : Channel :=
  { c with lastSample := some level, instantTaken := some now }

/-- An edge leaves the mode and the measurement to the Capture Unit. -/
@[simp] theorem edgeSeen_mode (level : Bool) (c : Channel) : (edgeSeen level c).mode = c.mode := rfl
@[simp] theorem edgeSeen_measurement (level : Bool) (c : Channel) : (edgeSeen level c).measurement = c.measurement := rfl
@[simp] theorem edgeSeen_saturationOf (level : Bool) (lead : Time) (c : Channel) :
    saturationOf lead (edgeSeen level c) = saturationOf lead c := rfl
@[simp] theorem notedSample_mode (now : Time) (level : Bool) (c : Channel) : (notedSample now level c).mode = c.mode := rfl
@[simp] theorem notedSample_measurement (now : Time) (level : Bool) (c : Channel) :
    (notedSample now level c).measurement = c.measurement := rfl
@[simp] theorem notedSample_saturationOf (now lead : Time) (level : Bool) (c : Channel) :
    saturationOf lead (notedSample now level c) = saturationOf lead c := rfl

/-- R53 to R64, R74 to R80: what can happen to one channel at `now`. -/
inductive ChannelChange (now : Time) (c : Channel) : Channel → Prop
  | enable : ChannelChange now c (enabledChannel now c)
  | disable : ChannelChange now c (disabledChannel c)
  | arm (h : c.sampler ≠ .off) : ChannelChange now c (armedChannel c)
  | disarm : ChannelChange now c (disarmedChannel c)
  | unsee : ChannelChange now c (unseenChannel c)
  | reconfigure (x : ChannelSettings) (harmed : c.armed = false)
      (hx : 1 ≤ x.filterCount.toNat ∧ x.filterCount.toNat ≤ 15 ∧ x.threshold ≠ 0) : ChannelChange now c (reconfigured now x c)
  | sampleCounts (level : Bool) (hdue : sampleDue now c = true) (hrun : completedRun now level c = none) :
      ChannelChange now c { notedSample now level c with run := brokenOrLongerRun now level c }
  | baseline (level : Bool) (hdue : sampleDue now c = true) :
      ChannelChange now c { notedSample now level c with sampler := .stable level, run := none }
  | edge (level : Bool) (hdue : sampleDue now c = true) : ChannelChange now c (edgeSeen level (notedSample now level c))
  | edgeBeginsWidth (level : Bool) (r : Run) (p : Polarity) (hdue : sampleDue now c = true)
      (hrun : completedRun now level c = some r) (harmed : c.armed = true) (hmode : c.mode = .width p) :
      ChannelChange now c { edgeSeen level (notedSample now level c) with
        measurement := some { lead := r.start, saturated := false, saturationPoint := saturationOf r.start c } }
  | endWidth : ChannelChange now c { c with measurement := none }
  | saturate (m : Measurement) (h : c.measurement = some m) :
      ChannelChange now c { c with measurement := some { m with saturated := true } }
  | countUp (h : c.count + 1 ≠ c.threshold) : ChannelChange now c { c with count := c.count + 1 }
  | countAgain : ChannelChange now c { c with count := 0 }

/-- R89 to R95: what can happen to one timer at `now`. -/
inductive TimerChange (now : Time) (t : Timer) : Timer → Prop
  | start : TimerChange now t (startedTimer now t)
  | stop : TimerChange now t (stoppedTimer t)
  | configure (m : TimerMode) (period : Word24) (report : Bool) (c : Cls) (h : t.due = none) :
      TimerChange now t { t with mode := m, period := period, report := report, cls := c }
  | expire : TimerChange now t (expiredTimer now t)

/-- R101, R113, R117, R118: what can happen to one entry. -/
inductive EntryChange (e : Entry) : Entry → Prop
  | arm : EntryChange e (armedEntry e)
  | disarm : EntryChange e (disarmedEntry e)
  | clear : EntryChange e Entry.default
  | load (c : EntryContents) (h : 1 ≤ c.actions.length ∧ c.actions.length ≤ 4) :
      EntryChange e { state := .disarmed c, remaining := 0, fires := 0 }
  | countFiring (h : e.state ≠ .empty) : EntryChange e { e with fires := e.fires + 1 }
  | spend (c : EntryContents) (h : e.state = .armed c) (hr : e.remaining - 1 ≠ 0) (hl : c.fireLimit ≠ 0) :
      EntryChange e { e with remaining := e.remaining - 1 }
  | spendLast (c : EntryContents) (h : e.state = .armed c) : EntryChange e { e with state := .disarmed c, remaining := 0 }

/-- R122 to R124, R130: what can happen to one line at `now`, the link standing at `link`. -/
inductive OutputChange (now : Time) (link : LinkState) (o : Output) : Output → Prop
  | claim (op : OutOp) (h : o.locked = false) : OutputChange now link o (applyClaim now op o)
  | endPulse : OutputChange now link o (endPulse o)
  | configure (p : Policy) (v : Bool) (h : link ≠ .stalled) : OutputChange now link o { o with policy := p, safeLevel := v }

/-- R49, R144: the state LINK_CFG leaves. -/
def linkConfigured (timeout retryLimit silenceLimit : Byte) (s : State) : State :=
  { s with
      retransmitTimeout := timeout, retryLimit := retryLimit, silenceLimit := silenceLimit
      silenceDue :=
        if s.link ≠ .up then s.silenceDue
        else if silenceLimit = 0 then none
        else some (s.timebase + BitVec.ofNat 32 (silenceLimit.toNat * 100000)) }

/-- The level of one field line (log 10). -/
def setInput (i : ChannelId) (level : Bool) (s : State) : State := { s with inputs := s.inputs.set i level }

@[simp] theorem setInput_timebase (i : ChannelId) (level : Bool) (s : State) : (setInput i level s).timebase = s.timebase := rfl
@[simp] theorem channelAt_setInput (i k : ChannelId) (level : Bool) (s : State) : channelAt (setInput i level s) k = channelAt s k := rfl

/-- One elementary change of the state. `A` is what may be assumed of the gap timer when the step begins: the due time a rescan takes over
from the character before it is no later than what stood there (log 7). -/
inductive Change (A : Prop) (s : State) : State → Prop
  -- one channel, timer, entry or line, and the levels of the field lines
  | channel (i : ChannelId) (x : Channel) (h : ChannelChange s.timebase (channelAt s i) x) : Change A s (setChannel i x s)
  | timer (t : TimerId) (x : Timer) (h : TimerChange s.timebase (timerAt s t) x) : Change A s (setTimer t x s)
  | entry (i : EntryId) (x : Entry) (h : EntryChange (entryAt s i) x) : Change A s (setEntry i x s)
  | output (l : LineId) (x : Output) (h : OutputChange s.timebase s.link (outputAt s l) x) : Change A s (setOutput l x s)
  | input (i : ChannelId) (level : Bool) : Change A s (setInput i level s)
  -- the class queues and delivery
  | admitted (c : Cls) (o : Content) (h : admits c s = true) : Change A s (admitRecord c o s)
  | refuse (c : Cls) : Change A s (refuseOffer c s)
  | acknowledge (c : Cls) : Change A s (setClass c (freeFrame (classAt s c)) s)
  | age (c : Cls) (number : Word16) : Change A s (setClass c (ageClass number s.timebase (classAt s c)) s)
  | flush (c : Cls) : Change A s (setClass c (emptyClass (classAt s c)) s)
  | configureClass (c : Cls) (limit batchMin batchHold frameMax reserve : Byte)
      (hrange : classValuesInRange c limit batchMin frameMax reserve = true) (hfits : occupancyFits c limit reserve s = true) :
      Change A s { s with
        classes := s.classes.set c
          { classAt s c with limit := limit, batchMin := batchMin, batchHold := batchHold, frameMax := frameMax }
        reserve := if c = 0 then reserve else s.reserve }
  | resend (c : Cls) (f : InFlight) (hf : (classAt s c).frame = some f) (hw : f.state = .waiting s.timebase) :
      Change A s (setClass c { classAt s c with
        retryCount := (classAt s c).retryCount + 1, frame := some { f with state := .resend } } s)
  -- the transmitter
  | sendReply (r : Reply) (rest : List Reply) (ht : s.tx = none) (hq : s.replyQueue = r :: rest) :
      Change A s (startSending (.reply r) { s with replyQueue := rest })
  | sendNotice (n : Notice) (rest : List Notice) (ht : s.tx = none) (hn : s.notices = n :: rest) :
      Change A s (startSending (.notice n) { s with notices := rest })
  | sendAgain (c : Cls) (f : InFlight) (ht : s.tx = none) (hl : s.link = .up) (hf : (classAt s c).frame = some f)
      (hr : f.state = .resend) :
      Change A s (startSending (.report s.session c f.seq f.records)
        (setClass c { classAt s c with frame := some { f with state := .sending } } s))
  | sendNew (c : Cls) (ht : s.tx = none) (hl : s.link = .up) (hf : (classAt s c).frame = none) (hu : (classAt s c).unsent ≠ []) :
      Change A s (startSending
        (.report s.session c (classAt s c).nextSeq
          ((classAt s c).unsent.take (min (classAt s c).unsent.length (classAt s c).frameMax.toNat)))
        (setClass c (buildFrame (classAt s c)) s))
  | sentToWait (c : Cls) (f : InFlight) (hl : s.link = .up) (hf : (classAt s c).frame = some f) (hs : f.state = .sending)
      (ht : ∃ session seq records ends, s.tx = some { frame := .report session c seq records, ends := ends }) :
      Change A s (setClass c { classAt s c with frame := some { f with state := .waiting (retransmitDue s) } } { s with tx := none })
  | sentToHold (c : Cls) (f : InFlight) (w : Option Cls) (hl : s.link = .quiet w) (hf : (classAt s c).frame = some f)
      (hs : f.state = .sending)
      (ht : ∃ session seq records ends, s.tx = some { frame := .report session c seq records, ends := ends }) :
      Change A s (setClass c { classAt s c with frame := some { f with state := .held } } { s with tx := none })
  | sent (x : Sending) (ht : s.tx = some x)
      (hx : ∀ session c seq records, x.frame = .report session c seq records → ∀ f, (classAt s c).frame = some f → f.state = .sending →
        s.link ≠ .up ∧ ∀ w, s.link ≠ .quiet w) : Change A s { s with tx := none }
  -- the link
  | openSession : Change A s (openSession s)
  | quiet (w : Option Cls) (h : s.link = .up) :
      Change A s { s with link := .quiet w, classes := s.classes.map holdFrame, silenceDue := none }
  | resumeQuiet (w : Option Cls) (h : s.link = .quiet w) :
      Change A s { s with link := .up, classes := s.classes.map (unholdFrame (retransmitDue s)), silenceDue := silenceStart s }
  | resumeStalled (h : s.link = .stalled) : Change A s (clearLocks { s with link := .up, silenceDue := silenceStart s })
  | configureLink (timeout retryLimit silenceLimit : Byte) :
      Change A s (linkConfigured timeout retryLimit silenceLimit s)
  | stall (cause : Notice) (h : s.link = .up) : Change A s (stalled cause s)
  | stopSilence (h : s.link ≠ .up) : Change A s { s with silenceDue := none }
  | restartSilence (h : s.silenceDue.isSome = true) : Change A s { s with silenceDue := silenceStart s }
  | pendReset (x : Scope) : Change A s { s with pendingReset := some x }
  | linkReset : Change A s (linkReset s)
  | captureReset : Change A s (captureReset s)
  | allReset : Change A s (allReset s)
  | attn (level : Bool) : Change A s { s with attn := level }
  -- the request handler
  | pushRequest (r : Request) (hr : r ∉ s.requestQueue) (hq : s.requestQueue.length < 4) :
      Change A s { s with requestQueue := s.requestQueue ++ [r] }
  | popRequest (r : Request) (rest : List Request) (h : s.requestQueue = r :: rest) : Change A s { s with requestQueue := rest }
  | pushReply (r : Reply) (h : s.replyQueue.length < 4) : Change A s { s with replyQueue := s.replyQueue ++ [r] }
  | cacheReply (e : CacheEntry) : Change A s { s with replyCache := cacheWith e s.replyCache }
  -- the receiver
  | changeRate (r : RateCode) (counted : Bool) (ht : s.tx = none) :
      Change A s { s with rate := r, rateChange := some { time := s.timebase, frameCounted := counted } }
  | collect (rx : RxState) (candidate : List Byte) (gapDue : Option Time)
      (hr : ReceiverSafe s → ReceiverSafe { s with rx := rx, candidate := candidate, gapDue := gapDue })
      (hg : A → GapAhead { s with rx := rx, candidate := candidate, gapDue := gapDue }) :
      Change A s { s with rx := rx, candidate := candidate, gapDue := gapDue }
  | discards (n : Word16) : Change A s { s with discards := n }
  | rxHeld (b : Bool) : Change A s { s with rxHeld := b }
  | markCounted : Change A s { s with rateChange := s.rateChange.map (fun change => { change with frameCounted := true }) }
  -- commands, time and hard reset
  | pending (commands : List Instr) : Change A s { s with pending := commands }
  | tick (hh : s.hardReset = none) (h : dueCommands s = []) : Change A s (tick s)
  | hold (cause : HardCause) : Change A s (heldInReset cause s)
  | release (cause : HardCause) : Change A s { hardDefaults s with notices := [bootNotice cause] }

/-- A run of elementary changes. -/
abbrev Reaches (A : Prop) : State → State → Prop := Relation.ReflTransGen (Change A)

/-- What every elementary change keeps, a run of them keeps. -/
theorem Reaches.keeps {A : Prop} {P : State → Prop} (hP : ∀ s t, Change A s t → P s → P t) {s t : State} (h : Reaches A s t)
    (hs : P s) : P t := by
  induction h with
  | refl => exact hs
  | tail _ hc ih => exact hP _ _ hc ih

theorem Change.reaches {A : Prop} {s t : State} (h : Change A s t) : Reaches A s t := Relation.ReflTransGen.single h

theorem Reaches.refl {A : Prop} (s : State) : Reaches A s s := Relation.ReflTransGen.refl

theorem Reaches.foldl {A : Prop} {α : Type} (f : State → α → State) (hf : ∀ s a, Reaches A s (f s a)) (l : List α) (s : State) :
    Reaches A s (l.foldl f s) := by
  induction l generalizing s with
  | nil => exact .refl s
  | cons a l ih => exact (hf s a).trans (ih _)

variable {A : Prop}

/-! ### Selections and offers -/

theorem arbitrate_reaches (s : State) : Reaches A s (arbitrate s) := by
  rcases arbitrate_cases s with h | ⟨ht, -, r, rest, hq, h⟩ | ⟨ht, -, -, n, rest, hn, h⟩ | ⟨ht, -, -, -, c, ho, h⟩ <;> rw [h]
  · exact (Change.sendReply r rest ht hq).reaches
  · exact (Change.sendNotice n rest ht hn).reaches
  · obtain ⟨hl, ⟨f, hf, hr⟩ | ⟨hf, hu⟩⟩ := offersFrame_cases (offeringClass_some ho).1
    · rw [sendReport_resend s c f hf hr]; exact (Change.sendAgain c f ht hl hf hr).reaches
    · rw [sendReport_build s c hf]; exact (Change.sendNew c ht hl hf hu).reaches

theorem selectWaiting_reaches (s : State) : Reaches A s (selectWaiting s) := by
  unfold selectWaiting
  split
  · exact .refl s
  · exact arbitrate_reaches s

theorem selectNext_reaches (s : State) : Reaches A s (selectNext s) :=
  (arbitrate_reaches s).tail (Change.attn _)

theorem offer_reaches (c : Cls) (o : Content) (s : State) : Reaches A s (offer c o s) := by
  rcases offer_cases c o s with ⟨ha, h⟩ | ⟨-, h⟩ <;> rw [h]
  · exact (Change.admitted c o ha).reaches.trans (arbitrate_reaches _)
  · exact (Change.refuse c).reaches

/-! ### The firing pass -/

theorem reactionClaim_reaches (op : OutOp) (s : State) : Reaches A s (reactionClaim op s) := by
  unfold reactionClaim
  split
  · exact .refl s
  · next h => exact (Change.output _ _ (.claim op (by simpa using h))).reaches

theorem armChannel_reaches (i : ChannelId) (s : State) : Reaches A s (armChannel i s) := by
  unfold armChannel
  split
  · exact .refl s
  · next h => exact (Change.channel i _ (.arm h)).reaches

theorem disarmChannel_reaches (i : ChannelId) (s : State) : Reaches A s (disarmChannel i s) := by
  unfold disarmChannel
  split
  · exact (Change.channel i _ .disarm).reaches
  · exact .refl s

theorem runAction_reaches (ev : Content) (i : EntryId) (s : State) (a : Action) : Reaches A s (runAction ev i s a) := by
  cases a with
  | out op => exact reactionClaim_reaches op s
  | timerStart t => exact (Change.timer t _ .start).reaches
  | timerStop t => exact (Change.timer t _ .stop).reaches
  | chanArm c => exact armChannel_reaches c s
  | chanDisarm c => exact disarmChannel_reaches c s
  | reactArm j => exact (Change.entry j _ .arm).reaches
  | reactDisarm j => exact (Change.entry j _ .disarm).reaches
  | post c tag => exact offer_reaches c _ s

/-- The contents an entry that is not EMPTY holds. -/
def Entry.Holds (c : EntryContents) (e : Entry) : Prop := e.state = .armed c ∨ e.state = .disarmed c

theorem armedEntry_holds {c : EntryContents} {e : Entry} (h : e.Holds c) : (armedEntry e).Holds c := by
  rcases h with h | h <;> simp [armedEntry, h, Entry.Holds]

theorem disarmedEntry_holds {c : EntryContents} {e : Entry} (h : e.Holds c) : (disarmedEntry e).Holds c := by
  rcases h with h | h <;> simp [disarmedEntry, h, Entry.Holds]

@[simp] theorem entryAt_reactionClaim (op : OutOp) (s : State) (i : EntryId) : entryAt (reactionClaim op s) i = entryAt s i := by
  unfold reactionClaim claim
  split <;> rfl

@[simp] theorem entryAt_armChannel (k : ChannelId) (s : State) (i : EntryId) : entryAt (armChannel k s) i = entryAt s i := by
  unfold armChannel
  split <;> rfl

@[simp] theorem entryAt_disarmChannel (k : ChannelId) (s : State) (i : EntryId) : entryAt (disarmChannel k s) i = entryAt s i := by
  unfold disarmChannel
  split <;> rfl

/-- No action takes the contents from an entry (R105 to R110). -/
theorem runAction_holds {ev : Content} {i j : EntryId} {c : EntryContents} {s : State} (a : Action)
    (h : (entryAt s j).Holds c) : (entryAt (runAction ev i s a) j).Holds c := by
  cases a with
  | reactArm k =>
    simp only [runAction, armEntry, entryAt_setEntry]
    split
    · next hk => subst hk; exact armedEntry_holds h
    · exact h
  | reactDisarm k =>
    simp only [runAction, disarmEntry, entryAt_setEntry]
    split
    · next hk => subst hk; exact disarmedEntry_holds h
    · exact h
  | out op => simpa [runAction] using h
  | chanArm k => simpa [runAction] using h
  | chanDisarm k => simpa [runAction] using h
  | post k tag => simpa [runAction] using h
  | timerStart t => exact h
  | timerStop t => exact h

theorem runActions_holds {ev : Content} {i j : EntryId} {c : EntryContents} (l : List Action) {s : State}
    (h : (entryAt s j).Holds c) : (entryAt (l.foldl (runAction ev i) s) j).Holds c := by
  induction l generalizing s with
  | nil => exact h
  | cons a l ih => exact ih (runAction_holds a h)

theorem spendFiring_reaches (ev : Content) (i : EntryId) (s : State) : Reaches A s (spendFiring ev i s) := by
  unfold spendFiring
  dsimp only
  split
  · next c hc =>
    split
    · exact .refl s
    · next hl =>
      split
      · have hspent := (Change.entry (A := A) i _ (.spendLast c hc)).reaches
        split
        · exact hspent.trans (offer_reaches _ _ _)
        · exact hspent
      · next hr => exact (Change.entry i _ (.spend c hc hr hl)).reaches
  · exact .refl s

theorem takeCandidate_reaches (ev : Content) (s : State) (i : EntryId) : Reaches A s (takeCandidate ev s i) := by
  unfold takeCandidate
  split
  · next c hc =>
    have hran : (entryAt ((c.actions.map (·.action)).foldl (runAction ev i) s) i).Holds c := runActions_holds _ (.inl hc)
    have hne : (entryAt ((c.actions.map (·.action)).foldl (runAction ev i) s) i).state ≠ .empty := by
      rcases hran with h | h <;> rw [h] <;> simp
    exact ((Reaches.foldl _ (runAction_reaches ev i) _ s).tail (.entry i _ (.countFiring hne))).trans (spendFiring_reaches ev i _)
  · exact .refl s

theorem firingPass_reaches (ev : Content) (s : State) : Reaches A s (firingPass ev s) :=
  Reaches.foldl _ (takeCandidate_reaches ev) _ s

/-! ### Samples and edges -/

theorem captureEvent_reaches (i : ChannelId) (ev : Content) (s : State) : Reaches A s (captureEvent i ev s) := by
  unfold captureEvent
  dsimp only
  split
  · exact (offer_reaches _ _ s).trans (firingPass_reaches ev _)
  · exact firingPass_reaches ev s

@[simp] theorem setChannel_setChannel (i : ChannelId) (x y : Channel) (s : State) :
    setChannel i x (setChannel i y s) = setChannel i x s := by
  simp [setChannel]

theorem noteSample_eq (i : ChannelId) (level : Bool) (s : State) :
    noteSample i level s = setChannel i (notedSample s.timebase level (channelAt s i)) (setInput i level s) := rfl

/-- An edge at a Capture Unit, apart from the beginning of a measurement, which the edge and the measurement make together. -/
theorem handEdge_reaches (i : ChannelId) (d : Direction) (time : Time) (s : State)
    (h : ∀ p, (channelAt s i).mode = .width p → isLeading p d = true → (channelAt s i).measurement ≠ none) :
    Reaches A s (handEdge i d time s) := by
  unfold handEdge
  split
  · unfold captureEdge
    split
    · exact captureEvent_reaches i _ s
    · exact .refl s
  · next p hp =>
    split
    · next hl => simp [beginWidth, Option.isSome_iff_ne_none, h p hp hl, Reaches.refl]
    · unfold endWidth
      dsimp only
      split
      · exact .refl s
      · exact (Change.channel (A := A) i _ .endWidth).reaches.trans (captureEvent_reaches i _ _)
  · unfold captureCount
    dsimp only
    split
    · split
      · exact (Change.channel (A := A) i _ .countAgain).reaches.trans (captureEvent_reaches i _ _)
      · next hc => exact (Change.channel i _ (.countUp hc)).reaches
    · exact .refl s

theorem recognizeEdge_noteSample_eq (i : ChannelId) (level : Bool) (time : Time) (s : State) :
    recognizeEdge i level time (noteSample i level s) =
      if (channelAt s i).armed then
        handEdge i (directionTo level) time
          (setChannel i (edgeSeen level (notedSample s.timebase level (channelAt s i))) (setInput i level s))
      else setChannel i (edgeSeen level (notedSample s.timebase level (channelAt s i))) (setInput i level s) := by
  simp [recognizeEdge, noteSample_eq]
  rfl

/-- A leading edge that finds no measurement (R75). -/
theorem handEdge_beginsWidth {i : ChannelId} {d : Direction} {time : Time} {p : Polarity} {s : State}
    (hmode : (channelAt s i).mode = .width p) (hlead : isLeading p d = true) (hm : (channelAt s i).measurement = none) :
    handEdge i d time s = setChannel i { channelAt s i with
      measurement := some { lead := time, saturated := false, saturationPoint := saturationOf time (channelAt s i) } } s := by
  simp [handEdge, hmode, hlead, beginWidth, hm]

theorem recognizeEdge_reaches {i : ChannelId} {level : Bool} {r : Run} {s : State} (hdue : sampleDue s.timebase (channelAt s i) = true)
    (hrun : completedRun s.timebase level (channelAt s i) = some r) :
    Reaches A s (recognizeEdge i level r.start (noteSample i level s)) := by
  rw [recognizeEdge_noteSample_eq]
  have hin : Reaches A s (setInput i level s) := (Change.input i level).reaches
  have hedge := hin.tail (Change.channel i _ (.edge level hdue))
  split
  next harmed =>
    by_cases hbegin : ∃ p, (channelAt s i).mode = .width p ∧ isLeading p (directionTo level) = true ∧ (channelAt s i).measurement = none
    · obtain ⟨p, hmode, hlead, hm⟩ := hbegin
      have hwidth := hin.tail (Change.channel i _ (.edgeBeginsWidth level r p hdue hrun harmed hmode))
      rw [handEdge_beginsWidth (p := p) (by simpa using hmode) hlead (by simpa using hm)]
      simpa using hwidth
    · refine hedge.trans (handEdge_reaches i _ _ _ fun p hmode hlead hm => hbegin ⟨p, ?_, hlead, ?_⟩)
      · simpa using hmode
      · simpa using hm
  · exact hedge

theorem sample_reaches (i : ChannelId) (level : Bool) (s : State) : Reaches A s (sample i level s) := by
  unfold sample
  dsimp only
  split
  · next hdue =>
    have hin : Reaches A s (setInput i level s) := (Change.input i level).reaches
    split
    · simpa [settleAt, noteSample_eq] using hin.tail (Change.channel i _ (.baseline level hdue))
    · next hrun _ => exact recognizeEdge_reaches hdue hrun
    · next hbase hedge =>
      have hnone : completedRun s.timebase level (channelAt s i) = none := by
        rcases none_or_some (completedRun s.timebase level (channelAt s i)) with h | ⟨r, h⟩
        · exact h
        · exfalso
          cases hs : (channelAt s i).sampler with
          | off => simp [completedRun, hs] at h
          | settling => exact hbase r h hs
          | stable f => exact hedge r f h hs
      simpa [noteSample_eq] using hin.tail (Change.channel i _ (.sampleCounts level hdue hnone))
  · exact .refl s

/-! ### Points of time -/

theorem saturate_reaches (i : ChannelId) (s : State) : Reaches A s (saturate i s) := by
  unfold saturate
  split
  · next m hm =>
    split
    · exact (Change.channel i _ (.saturate m hm)).reaches
    · exact .refl s
  · exact .refl s

theorem expire_reaches (t : TimerId) (s : State) : Reaches A s (expire t s) := by
  unfold expire
  dsimp only
  split
  · have hexp := (Change.timer (A := A) (s := s) t _ .expire).reaches
    refine Relation.ReflTransGen.trans ?_ (firingPass_reaches _ _)
    split
    · exact hexp.trans (offer_reaches _ _ _)
    · exact hexp
  · exact .refl s

theorem pulseEnds_reaches (l : LineId) (s : State) : Reaches A s (pulseEnds l s) := by
  unfold pulseEnds
  split
  · split
    · exact (Change.output l _ .endPulse).reaches
    · exact .refl s
  · exact .refl s

/-- R141: stall entry as Claims.lean writes it out. -/
theorem stallEntry_eq_stalled (cause : Notice) {s : State} (h : s.link = .up) : stallEntry cause s = stalled cause s := by
  have hsafe : safeOutput = fun o : Output =>
      if o.policy = .drive then { o with level := o.safeLevel, pulse := none, locked := true } else o := by
    funext o
    cases hp : o.policy <;> simp [safeOutput, hp]
  simp only [stallEntry, if_pos h, applySafeState, hsafe]
  rfl

/-- R142: a cause that arrives in another state changes nothing. -/
theorem stallEntry_not_up (cause : Notice) {s : State} (h : s.link ≠ .up) : stallEntry cause s = s := by
  simp [stallEntry, h]

theorem retransmitExpires_reaches (c : Cls) (s : State) : Reaches A s (retransmitExpires c s) := by
  unfold retransmitExpires
  dsimp only
  split
  · next f hf =>
    split
    · next hw =>
      split
      · exact (Change.resend c f hf hw).reaches
      · by_cases hl : s.link = .up
        · rw [stallEntry_eq_stalled _ hl]; exact (Change.stall _ hl).reaches
        · rw [stallEntry_not_up _ hl]
    · exact .refl s
  · exact .refl s

/-- R143: outside UP, which R143 rules out, only the timer stops (log 19). -/
theorem silenceExpires_of_not_up {s : State} (hd : s.silenceDue = some s.timebase) (hl : s.link ≠ .up) :
    silenceExpires s = { s with silenceDue := none } := by
  rw [silenceExpires, if_pos hd]
  exact stallEntry_not_up .stallSilence (s := { s with silenceDue := none }) hl

theorem silenceExpires_of_up {s : State} (hd : s.silenceDue = some s.timebase) (hl : s.link = .up) :
    silenceExpires s = stalled .stallSilence s := by
  rw [silenceExpires, if_pos hd, stallEntry_eq_stalled .stallSilence (s := { s with silenceDue := none }) hl]
  rfl

theorem silenceExpires_reaches (s : State) : Reaches A s (silenceExpires s) := by
  by_cases hd : s.silenceDue = some s.timebase
  · by_cases hl : s.link = .up
    · rw [silenceExpires_of_up hd hl]; exact (Change.stall _ hl).reaches
    · rw [silenceExpires_of_not_up hd hl]; exact (Change.stopSilence hl).reaches
  · simp [silenceExpires, hd, Reaches.refl]

/-! ### The end of a frame on TXD -/

theorem toHunt_reaches (s : State) : Reaches A s (toHunt s) :=
  (Change.collect .hunt [] none (fun _ => ⟨rfl, rfl⟩) (fun _ d h => by cases h)).reaches

theorem countDiscard_reaches (s : State) : Reaches A s (countDiscard s) := (Change.discards _).reaches

theorem changeRate_reaches (r : RateCode) {s : State} (ht : s.tx = none) : Reaches A s (changeRate r s) := by
  unfold changeRate
  split
  · exact .refl s
  · dsimp only
    split
    · exact (Change.changeRate r false ht).reaches
    · exact ((Change.changeRate r true ht).reaches.trans (toHunt_reaches _)).trans (countDiscard_reaches _)

theorem takeReset_reaches (scope : Scope) (s : State) : Reaches A s (takeReset scope s) := by
  cases scope with
  | link => exact Change.linkReset.reaches
  | capture => exact Change.captureReset.reaches
  | all => exact Change.allReset.reaches

theorem replySent_reaches (r : Reply) (s : State) (ht : s.tx = none) : Reaches A s (replySent r s) := by
  unfold replySent
  repeat' split
  all_goals first
    | exact .refl s
    | exact takeReset_reaches _ s
    | exact changeRate_reaches _ ht

theorem reportSent_reaches {session : Byte} {c : Cls} {seq : Byte} {records : List Record} {ends : Time} {s : State}
    (ht : s.tx = some { frame := .report session c seq records, ends := ends }) : Reaches A s (reportSent c { s with tx := none }) := by
  have hother : (∀ f, (classAt s c).frame = some f → f.state = .sending → s.link ≠ .up ∧ ∀ w, s.link ≠ .quiet w) →
      Reaches A s { s with tx := none } := fun h => by
    refine (Change.sent _ ht fun session' c' seq' records' he => ?_).reaches
    cases he
    exact h
  unfold reportSent
  split
  · next f hf =>
    split
    · next hs hl => exact (Change.sentToWait (s := s) c f hl hf hs ⟨session, seq, records, ends, ht⟩).reaches
    · next w hs hl => exact (Change.sentToHold (s := s) c f w hl hf hs ⟨session, seq, records, ends, ht⟩).reaches
    · next hup hquiet =>
      refine hother fun f' hf' hs => ?_
      cases hf.symm.trans hf'
      exact ⟨hup hs, fun w => hquiet w hs⟩
  · next hf =>
    refine hother fun f' hf' => ?_
    cases hf.symm.trans hf'

theorem frameSent_reaches (s : State) : Reaches A s (frameSent s) := by
  unfold frameSent
  split
  · exact .refl s
  · next x hx =>
    obtain ⟨frame, ends⟩ := x
    cases frame with
    | reply r => exact (Change.sent (A := A) _ hx (by simp)).reaches.trans (replySent_reaches r _ rfl)
    | notice n => exact (Change.sent _ hx (by simp)).reaches
    | report session c seq records => exact reportSent_reaches hx

end Sys2Proof.Machine
end

section
/-! SUPPORT. Every owner, the handler, the receiver and so every step is a run of elementary changes. -/

namespace Sys2Proof.Machine

open Sys2Proof

variable {A : Prop}

/-! ### The owners -/

theorem openSession_reaches (s : State) : Reaches A s (ownerHello s).state := Change.openSession.reaches

theorem ownerReset_reaches (scope : Byte) (s : State) : Reaches A s (ownerReset scope s).state := by
  unfold ownerReset
  split
  · exact (Change.pendReset _).reaches
  · exact .refl s

/-- R49, R144: LINK_CFG with its values in range. -/
theorem ownerLinkCfg_eq_accept {rate timeout retryLimit silenceLimit : Byte} {r : RateCode} (hr : indexOf 8 rate = some r)
    (hv : ¬ (timeout = 0 ∨ 15 < retryLimit.toNat)) (s : State) :
    ownerLinkCfg rate timeout retryLimit silenceLimit s =
      { accept (linkConfigured timeout retryLimit silenceLimit s) [] with rate := some r } := by
  unfold ownerLinkCfg
  simp only [hr, if_neg hv]
  by_cases hl : s.link = .up
  · simp only [hl, if_true]; simp only [linkConfigured, silenceStart, hl, ne_eq, not_true, if_false]
  · simp only [hl, if_false]; simp only [linkConfigured, ne_eq, hl, not_false_eq_true, if_true]

theorem ownerLinkCfg_reaches (rate timeout retryLimit silenceLimit : Byte) (s : State) :
    Reaches A s (ownerLinkCfg rate timeout retryLimit silenceLimit s).state := by
  cases hr : indexOf 8 rate with
  | none => simp only [ownerLinkCfg, hr]; exact .refl s
  | some r =>
    by_cases hv : timeout = 0 ∨ 15 < retryLimit.toNat
    · simp only [ownerLinkCfg, hr, if_pos hv]; exact .refl s
    · rw [ownerLinkCfg_eq_accept hr hv]; exact (Change.configureLink timeout retryLimit silenceLimit).reaches

theorem ownerLinkRead_reaches (clear : Byte) (s : State) : Reaches A s (ownerLinkRead clear s).state := by
  unfold ownerLinkRead
  split
  · exact (Change.discards 0).reaches
  · exact .refl s
  · exact .refl s

theorem ownerQuiet_reaches (wake : Byte) (s : State) : Reaches A s (ownerQuiet wake s).state := by
  unfold ownerQuiet
  split
  · exact .refl s
  · split
    · next h => exact (Change.quiet _ h).reaches
    · exact .refl s

theorem ownerResume_reaches (s : State) : Reaches A s (ownerResume s).state := by
  unfold ownerResume
  split
  · next w h => exact (Change.resumeQuiet w h).reaches
  · next h => exact (Change.resumeStalled h).reaches
  · exact .refl s

/-- R62, check 2: settings that pass are in range. -/
theorem channelSettings_inRange {mode select interval filterCount report cls : Byte} {threshold : Word16} {x : ChannelSettings}
    (h : channelSettings mode select interval filterCount report cls threshold = some x) :
    1 ≤ x.filterCount.toNat ∧ x.filterCount.toNat ≤ 15 ∧ x.threshold ≠ 0 := by
  unfold channelSettings at h
  split at h
  · split at h
    · cases h
    · next hr =>
      cases h
      simp only [not_or] at hr
      obtain ⟨hf, hf', ht⟩ := hr
      refine ⟨Nat.one_le_iff_ne_zero.mpr fun h0 => hf (BitVec.eq_of_toNat_eq h0), ?_, ht⟩
      show filterCount.toNat ≤ 15
      omega
  · cases h

theorem ownerChanCfg_reaches (channel mode select interval filterCount report cls : Byte) (threshold : Word16) (s : State) :
    Reaches A s (ownerChanCfg channel mode select interval filterCount report cls threshold s).state := by
  unfold ownerChanCfg
  split
  · next i x _ hx =>
    split
    · exact .refl s
    · next ha => exact (Change.channel i _ (.reconfigure x (by simpa using ha) (channelSettings_inRange hx))).reaches
  · exact .refl s

theorem overChannels_reaches (mask : Word16) (f : ChannelId → State → State) (hf : ∀ i s, Reaches A s (f i s)) (s : State) :
    Reaches A s (overChannels mask f s) := by
  refine Reaches.foldl _ (fun s i => ?_) _ s
  split
  · exact hf i s
  · exact .refl s

theorem ownerChanCtl_reaches (mask : Word16) (op : Byte) (s : State) : Reaches A s (ownerChanCtl mask op s).state := by
  unfold ownerChanCtl
  split
  · exact overChannels_reaches mask _ (fun i _ => (Change.channel i _ .enable).reaches) s
  · exact overChannels_reaches mask _ (fun i _ => (Change.channel i _ .disable).reaches) s
  · split
    · exact .refl s
    · exact overChannels_reaches mask _ armChannel_reaches s
  · exact overChannels_reaches mask _ disarmChannel_reaches s
  · exact overChannels_reaches mask _ (fun i _ => (Change.channel i _ .unsee).reaches) s
  · exact .refl s

theorem ownerClassCfg_reaches (cls limit batchMin batchHold frameMax reserve : Byte) (s : State) :
    Reaches A s (ownerClassCfg cls limit batchMin batchHold frameMax reserve s).state := by
  unfold ownerClassCfg
  split
  · exact .refl s
  · next c _ =>
    split
    · exact .refl s
    · next hr =>
      split
      · exact .refl s
      · next hf =>
        have hset := (Change.configureClass c limit batchMin batchHold frameMax reserve (by simpa using hr) (by simpa using hf)).reaches (A := A)
        rwa [← configureClass_eq c limit batchMin batchHold] at hset

theorem ownerFlush_reaches (cls : Byte) (s : State) : Reaches A s (ownerFlush cls s).state := by
  unfold ownerFlush
  split
  · exact (Change.flush _).reaches
  · exact .refl s

theorem ownerTimerCfg_reaches (timer mode : Byte) (period : Word24) (report cls : Byte) (s : State) :
    Reaches A s (ownerTimerCfg timer mode period report cls s).state := by
  unfold ownerTimerCfg
  split
  · exact .refl s
  · next t m r c _ =>
    split
    · exact .refl s
    · next hd => exact (Change.timer t _ (.configure m period r c (by simpa using hd))).reaches

theorem overTimers_reaches (mask : Byte) (f : TimerId → State → State) (hf : ∀ t s, Reaches A s (f t s)) (s : State) :
    Reaches A s (overTimers mask f s) := by
  refine Reaches.foldl _ (fun s t => ?_) _ s
  split
  · exact hf t s
  · exact .refl s

theorem ownerTimerCtl_reaches (mask op : Byte) (s : State) : Reaches A s (ownerTimerCtl mask op s).state := by
  unfold ownerTimerCtl
  split
  · exact .refl s
  · split
    · exact overTimers_reaches mask _ (fun t _ => (Change.timer t _ .start).reaches) s
    · exact overTimers_reaches mask _ (fun t _ => (Change.timer t _ .stop).reaches) s

theorem actionsOf_length {bytes : List ActionBytes} {l : List LoadedAction} (h : actionsOf bytes = some l) :
    l.length = bytes.length := by
  induction bytes generalizing l with
  | nil => cases h; rfl
  | cons b rest ih =>
    unfold actionsOf at h
    split at h
    · next hrest => cases h; simp [ih hrest]
    · cases h

theorem contentsOf_actions_length {kind index qualifier : Byte} {width : Word24} {fireLimit doneClass reportDone : Byte}
    {actions : List ActionBytes} {c : EntryContents}
    (h : contentsOf kind index qualifier width fireLimit doneClass reportDone actions = some c) :
    c.actions.length = actions.length := by
  unfold contentsOf at h
  split at h
  · next ha =>
    obtain ⟨q, -, rfl⟩ := Option.map_eq_some_iff.mp h
    exact actionsOf_length ha
  · cases h

theorem ownerReactLoad_reaches (entry kind index qualifier : Byte) (width : Word24) (fireLimit doneClass reportDone : Byte)
    {actions : List ActionBytes} (hn : 1 ≤ actions.length ∧ actions.length ≤ 4) (s : State) :
    Reaches A s (ownerReactLoad entry kind index qualifier width fireLimit doneClass reportDone actions s).state := by
  unfold ownerReactLoad
  split
  · next i c _ hc =>
    split
    · exact .refl s
    · exact (Change.entry i _ (.load c (by rwa [contentsOf_actions_length hc]))).reaches
  · exact .refl s

theorem overEntries_reaches (mask : Word16) (f : EntryId → State → State) (hf : ∀ i s, Reaches A s (f i s)) (s : State) :
    Reaches A s (overEntries mask f s) := by
  refine Reaches.foldl _ (fun s i => ?_) _ s
  split
  · exact hf i s
  · exact .refl s

theorem ownerReactCtl_reaches (mask : Word16) (op : Byte) (s : State) : Reaches A s (ownerReactCtl mask op s).state := by
  unfold ownerReactCtl
  split
  · split
    · exact .refl s
    · exact overEntries_reaches mask _ (fun i _ => (Change.entry i _ .arm).reaches) s
  · exact overEntries_reaches mask _ (fun i _ => (Change.entry i _ .disarm).reaches) s
  · exact overEntries_reaches mask _ (fun i _ => (Change.entry i _ .clear).reaches) s
  · exact .refl s

/-- A claim keeps the lock of every line. -/
theorem claim_locked (op : OutOp) (s : State) (l : LineId) : (outputAt (claim op s) l).locked = (outputAt s l).locked := by
  rw [claim, outputAt_setOutput]
  split
  · next h => subst h; cases op <;> rfl
  · rfl

theorem claims_reaches (ops : List OutOp) (s : State) (h : ∀ op ∈ ops, (outputAt s (opLine op)).locked = false) :
    Reaches A s (ops.foldl (fun s op => claim op s) s) := by
  induction ops generalizing s with
  | nil => exact .refl s
  | cons op ops ih =>
    have hfirst := (Change.output (A := A) (opLine op) _ (.claim op (h op (by simp)))).reaches
    refine hfirst.trans (ih (claim op s) fun op' hop' => ?_)
    rw [claim_locked]
    exact h op' (by simp [hop'])

theorem ownerOutWrite_reaches (bytes : List OutOpBytes) (s : State) : Reaches A s (ownerOutWrite bytes s).state := by
  unfold ownerOutWrite
  split
  · exact .refl s
  · split
    · exact .refl s
    · next h => exact claims_reaches _ s (by simpa using h)

theorem configureLines_link (p : Policy) (v : Bool) (mask : Byte) (lines : List LineId) (s : State) (h : s.link ≠ .stalled) :
    Reaches A s (lines.foldl (fun s l => if mask.getLsbD l.val then configureLine p v l s else s) s) := by
  induction lines generalizing s with
  | nil => exact .refl s
  | cons l lines ih =>
    rw [List.foldl_cons]
    split
    · exact (Change.output (A := A) l _ (.configure p v h)).reaches.trans (ih (configureLine p v l s) h)
    · exact ih s h

theorem ownerOutCfg_reaches (mask policy safeLevel : Byte) (s : State) : Reaches A s (ownerOutCfg mask policy safeLevel s).state := by
  unfold ownerOutCfg
  split
  · split
    · exact .refl s
    · next h => exact configureLines_link _ _ mask _ s h
  · exact .refl s

/-- R182: six bytes make one group. -/
theorem groupsOfSix_length (n : Nat) (bytes : List Byte) (h : bytes.length = 6 * n) : (groupsOfSix bytes).length = n := by
  induction n generalizing bytes with
  | zero => rw [List.eq_nil_of_length_eq_zero h]; rfl
  | succ n ih =>
    match bytes, h with
    | a :: b :: c :: d :: e :: f :: rest, h =>
      rw [groupsOfSix, List.length_cons, ih rest (by simp only [List.length_cons] at h; omega)]

/-- R182: a REACT_LOAD whose length fits carries 1 to 4 actions. -/
theorem actionGroups_length {count : Byte} {rest : List Byte} (h : countAgrees count rest.length 4 = true) :
    1 ≤ (actionGroups rest).length ∧ (actionGroups rest).length ≤ 4 := by
  simp only [countAgrees, Bool.and_eq_true, decide_eq_true_eq, beq_iff_eq] at h
  obtain ⟨⟨h1, h4⟩, hl⟩ := h
  rw [actionGroups, List.length_map, groupsOfSix_length count.toNat rest hl]
  exact ⟨h1, h4⟩

theorem ownerOf_reaches (code : Byte) (params : List Byte) (s : State) (hl : lengthFits code params = true) :
    Reaches A s (ownerOf code params s).state := by
  unfold ownerOf
  split
  · exact openSession_reaches s
  · exact ownerReset_reaches _ s
  · exact ownerLinkCfg_reaches _ _ _ _ s
  · exact ownerLinkRead_reaches _ s
  · exact ownerQuiet_reaches _ s
  · exact ownerResume_reaches s
  · exact .refl s
  · exact ownerChanCfg_reaches _ _ _ _ _ _ _ _ s
  · exact ownerChanCtl_reaches _ _ s
  · unfold ownerChanRead; split <;> exact .refl s
  · exact ownerClassCfg_reaches _ _ _ _ _ _ s
  · unfold ownerClassRead; split <;> exact .refl s
  · exact ownerFlush_reaches _ s
  · exact ownerTimerCfg_reaches _ _ _ _ _ s
  · exact ownerTimerCtl_reaches _ _ s
  · unfold ownerTimerRead; split <;> exact .refl s
  · next hc => exact ownerReactLoad_reaches _ _ _ _ _ _ _ _ (actionGroups_length (by simpa [lengthFits, hc] using hl)) s
  · exact ownerReactCtl_reaches _ _ s
  · unfold ownerReactRead; split <;> exact .refl s
  · exact ownerOutWrite_reaches _ s
  · exact ownerOutCfg_reaches _ _ _ s
  · exact .refl s
  · exact .refl s

/-! ### The handler -/

theorem execute_reaches (r : Request) (s : State) : Reaches A s (execute r s).state := by
  unfold execute
  split
  · exact .refl s
  · split
    · exact .refl s
    · next hl =>
      split
      · exact .refl s
      · exact ownerOf_reaches _ _ s (by simpa using hl)

theorem answer_reaches (r : Request) (s : State) (h : s.replyQueue.length < 4) : Reaches A s (answer r s) := by
  have hq : (execute r s).state.replyQueue.length < 4 := by rwa [(execute_frame r s).replyQueue]
  exact ((execute_reaches r s).tail (.pushReply (formReply r (execute r s)) hq)).tail (.cacheReply _)

theorem takeHead_reaches (s : State) : Reaches A s (takeHead s) := by
  rcases takeHead_cases s with ⟨hc, r, rest, hq, h⟩ | ⟨-, h⟩ <;> rw [h]
  obtain ⟨-, hroom, -⟩ := (canTake_iff s).mp hc
  exact (Change.popRequest r rest hq).reaches.trans (answer_reaches r _ hroom)

theorem takeWaiting_reaches (n : Nat) (s : State) : Reaches A s (takeWaiting n s) := by
  induction n generalizing s with
  | zero => exact .refl s
  | succ n ih =>
    unfold takeWaiting
    split
    · exact ((takeHead_reaches s).trans (selectNext_reaches _)).trans (ih _)
    · exact .refl s

theorem settle_reaches (s : State) : Reaches A s (settle s) := (selectNext_reaches s).trans (takeWaiting_reaches _ _)

theorem screen_reaches (r : Request) (s : State) : Reaches A s (screen r s) := by
  unfold screen
  split
  · split
    · next h => exact (Change.pushReply _ h).reaches
    · exact .refl s
  · split
    · exact .refl s
    · next hr =>
      split
      · next hq => exact (Change.pushRequest (A := A) r (by simpa using hr) hq).reaches.trans (takeHead_reaches _)
      · exact countDiscard_reaches s

theorem takeAck_reaches (session cls seq : Byte) (s : State) : Reaches A s (takeAck session cls seq s) := by
  unfold takeAck
  split
  · split
    · exact (Change.acknowledge _).reaches
    · exact .refl s
  · exact .refl s

theorem handleFrame_reaches (body : List Byte) (s : State) : Reaches A s (handleFrame body s) := by
  unfold handleFrame
  repeat' split
  · exact screen_reaches _ s
  · exact countDiscard_reaches s
  · exact takeAck_reaches _ _ _ s
  all_goals exact countDiscard_reaches s

theorem restartSilence_reaches (s : State) : Reaches A s (restartSilence s) := by
  unfold restartSilence
  split
  · next h => exact (Change.restartSilence h).reaches
  · exact .refl s

theorem soundFrame_reaches (body : List Byte) (s : State) : Reaches A s (soundFrame body s) :=
  (restartSilence_reaches s).trans (handleFrame_reaches body _)

/-! ### What leaves the timebase alone -/

@[simp] theorem takeHead_timebase (s : State) : (takeHead s).timebase = s.timebase := by
  rcases takeHead_cases s with ⟨-, r, rest, -, h⟩ | ⟨-, h⟩ <;> rw [h]
  exact (answer_frame r _).timebase

@[simp] theorem selectNext_timebase (s : State) : (selectNext s).timebase = s.timebase := by simp [selectNext]

@[simp] theorem takeWaiting_timebase (n : Nat) (s : State) : (takeWaiting n s).timebase = s.timebase := by
  induction n generalizing s with
  | zero => rfl
  | succ n ih =>
    unfold takeWaiting
    split
    · rw [ih]; simp
    · rfl

@[simp] theorem settle_timebase (s : State) : (settle s).timebase = s.timebase := by simp [settle]

@[simp] theorem screen_timebase (r : Request) (s : State) : (screen r s).timebase = s.timebase := by
  unfold screen
  repeat' split
  all_goals simp

@[simp] theorem handleFrame_timebase (body : List Byte) (s : State) : (handleFrame body s).timebase = s.timebase := by
  unfold handleFrame takeAck
  repeat' split
  all_goals simp

@[simp] theorem soundFrame_timebase (body : List Byte) (s : State) : (soundFrame body s).timebase = s.timebase := by
  rw [soundFrame, handleFrame_timebase, restartSilence]
  split <;> rfl

@[simp] theorem takeByte_timebase (due : Time) (b : Byte) (s : State) : (takeByte due b s).1.timebase = s.timebase := by
  unfold takeByte completeFrame
  dsimp only
  repeat' split
  all_goals simp [keepByte, discardFrame, toHunt]

@[simp] theorem takeBytes_timebase (due : Time) (bytes : List Byte) (s : State) : (takeBytes due bytes s).1.timebase = s.timebase := by
  induction bytes generalizing s with
  | nil => rfl
  | cons b rest ih =>
    have hb := takeByte_timebase due b s
    unfold takeBytes
    split
    · next s' h => rw [h] at hb; rw [ih]; exact hb
    · next s' again h => rw [h] at hb; exact hb

/-! ### The receiver -/

theorem discardFrame_reaches (s : State) : Reaches A s (discardFrame s) := (toHunt_reaches s).trans (countDiscard_reaches _)

/-- The LEN of a candidate that has one stays when a byte joins it. -/
theorem candidateLen_keepByte (next : RxState) (due : Time) (b : Byte) (s : State) (h : s.candidate ≠ []) :
    candidateLen (keepByte next due b s) = candidateLen s := by
  cases hc : s.candidate with
  | nil => exact absurd hc h
  | cons len rest => simp [candidateLen, keepByte, hc]

/-- R174: a byte that joins the frame being collected. -/
theorem keepByte_reaches (next : RxState) {due : Time} (b : Byte) {s : State}
    (hr : ReceiverSafe s → ReceiverSafe (keepByte next due b s)) (hg : A → (due - s.timebase).toNat ≤ 10417) :
    Reaches A s (keepByte next due b s) :=
  (Change.collect next _ _ hr (fun ha d hd => by cases hd; exact hg ha)).reaches

theorem completeFrame_reaches (b : Byte) (s : State) : Reaches A s (completeFrame b s).1 := by
  unfold completeFrame
  dsimp only
  split
  · exact ((toHunt_reaches s).trans (soundFrame_reaches _ _)).trans (settle_reaches _)
  · exact discardFrame_reaches s

theorem takeByte_reaches {due : Time} (b : Byte) {s : State} (hg : A → (due - s.timebase).toNat ≤ 10417) :
    Reaches A s (takeByte due b s).1 := by
  unfold takeByte
  split
  · split
    · exact (Change.collect .length [] (some due) (fun _ => ⟨rfl, rfl⟩) (fun ha d hd => by cases hd; exact hg ha)).reaches
    · exact .refl s
  · next hrx =>
    split
    · next hb =>
      refine keepByte_reaches _ b (fun hs => ?_) hg
      simp only [ReceiverSafe, hrx] at hs
      simp [ReceiverSafe, keepByte, hs.1, candidateLen, hb]
      omega
    · exact discardFrame_reaches s
  · next hrx =>
    split
    · next hl =>
      refine keepByte_reaches _ b (fun hs => ?_) hg
      simp only [ReceiverSafe, hrx] at hs
      obtain ⟨-, h3, h250, h1, -⟩ := hs
      have hlen := candidateLen_keepByte .check due b s (List.ne_nil_of_length_pos h1)
      simp only [ReceiverSafe, keepByte] at hlen ⊢
      simp only [hlen, List.length_append, List.length_singleton]
      exact ⟨rfl, h3, h250, by omega, by omega⟩
    · next hl =>
      refine keepByte_reaches _ b (fun hs => ?_) hg
      simp only [ReceiverSafe, hrx] at hs
      obtain ⟨-, h3, h250, h1, hle⟩ := hs
      have hlen := candidateLen_keepByte .body due b s (List.ne_nil_of_length_pos h1)
      simp only [ReceiverSafe, keepByte] at hlen ⊢
      simp only [hlen, List.length_append, List.length_singleton]
      exact ⟨rfl, h3, h250, by omega, by omega⟩
  · next hrx =>
    split
    · next hl =>
      refine keepByte_reaches _ b (fun hs => ?_) hg
      simp only [ReceiverSafe, hrx] at hs
      obtain ⟨-, h3, h250, h1, hle⟩ := hs
      have hlen := candidateLen_keepByte .check due b s (List.ne_nil_of_length_pos (by omega))
      simp only [ReceiverSafe, keepByte] at hlen ⊢
      simp only [hlen, List.length_append, List.length_singleton]
      exact ⟨rfl, h3, h250, by omega, by omega⟩
    · exact completeFrame_reaches b s

theorem takeBytes_reaches {due : Time} (bytes : List Byte) {s : State} (hg : A → (due - s.timebase).toNat ≤ 10417) :
    Reaches A s (takeBytes due bytes s).1 := by
  induction bytes generalizing s with
  | nil => exact .refl s
  | cons b rest ih =>
    have hb := takeByte_reaches b hg
    have ht := takeByte_timebase due b s
    unfold takeBytes
    split
    · next s' h => rw [h] at hb ht; exact hb.trans (ih fun ha => by rw [show s'.timebase = s.timebase from ht]; exact hg ha)
    · next s' again h => rw [h] at hb; exact hb

theorem feed_reaches {due : Time} (fuel : Nat) (bytes : List Byte) {s : State} (hg : A → (due - s.timebase).toNat ≤ 10417) :
    Reaches A s (feed due fuel bytes s) := by
  induction fuel generalizing bytes s with
  | zero => exact .refl s
  | succ fuel ih =>
    have hb := takeBytes_reaches bytes hg
    have ht := takeBytes_timebase due bytes s
    unfold feed
    split
    · next s' h => rw [h] at hb; exact hb
    · next s' again h => rw [h] at hb ht; exact hb.trans (ih again fun ha => by rw [show s'.timebase = s.timebase from ht]; exact hg ha)

/-- R177: the longest gap limit is that of rate code 0. -/
theorem gapLimit_le (rate : RateCode) : (gapLimit rate).toNat ≤ 10417 := by
  revert rate; decide

theorem add_sub_cancel_left_toNat (a b : Time) : (a + b - a).toNat = b.toNat := by
  rw [BitVec.add_comm, BitVec.add_sub_cancel]

theorem receiveByte_reaches (b : Byte) (s : State) : Reaches A s (receiveByte b s) :=
  feed_reaches _ _ fun _ => by rw [add_sub_cancel_left_toNat]; exact gapLimit_le s.rate

theorem takeCharacter_reaches (b : Byte) (s : State) : Reaches A s (takeCharacter b s) := by
  rcases takeCharacter_cases b s with ⟨-, h⟩ | ⟨-, h⟩ <;> rw [h]
  · exact (Change.rxHeld false).reaches.trans (receiveByte_reaches b _)

theorem framingError_reaches {s : State} (hs : A → GapAhead s) : Reaches A s (framingError s) := by
  unfold framingError
  split
  · exact .refl s
  · refine (discardFrame_reaches s).trans (feed_reaches _ _ fun ha => ?_)
    show (s.gapDue.getD s.timebase - s.timebase).toNat ≤ 10417
    rcases none_or_some s.gapDue with h | ⟨d, h⟩
    · simp [h]
    · rw [h]; exact hs ha d h

theorem takeFramingError_reaches (released : Bool) {s : State} (hs : A → GapAhead s) : Reaches A s (takeFramingError released s) := by
  rcases takeFramingError_cases released s with ⟨-, -, h⟩ | ⟨-, h⟩ <;> rw [h]
  · exact (Change.rxHeld true).reaches.trans (framingError_reaches hs)

theorem deliver_reaches (body : List Byte) (s : State) : Reaches A s (deliver body s) := by
  unfold deliver
  split
  · exact ((Change.rxHeld false).reaches.trans (toHunt_reaches _)).trans (soundFrame_reaches body _)
  · split
    · exact Change.markCounted.reaches.trans (countDiscard_reaches _)
    · exact .refl s

theorem request_reaches (r : Request) (s : State) : Reaches A s (request r s) := by
  unfold request
  split
  · exact takeHead_reaches s
  · exact deliver_reaches _ s

/-! ### Events, commands and steps -/

theorem event_reaches {f : State → State} {s t : State} (h : event f s = .next t) (hs : A → GapAhead s)
    (hf : ∀ u, (A → GapAhead u) → Reaches A u (f u)) : Reaches A s t := by
  rcases none_or_some s.hardReset with hh | ⟨cause, hh⟩
  · rw [event_eq f s hh] at h
    cases h
    have hw : A → GapAhead (selectWaiting s) := fun ha d hd => by
      simp only [selectWaiting_gapDue, selectWaiting_timebase] at hd ⊢; exact hs ha d hd
    exact ((selectWaiting_reaches s).trans (hf _ hw)).trans (settle_reaches _)
  · rw [event_hardReset f s cause hh] at h
    cases h
    exact .refl s

/-- The commands that are no request: the effect of each event is a run of changes. -/
theorem exec_reaches_of_no_request {i : Instr} {s t : State} (hi : requestOf i = none) (hs : A → GapAhead s)
    (h : exec i s = .next t) : Reaches A s t := by
  cases i <;> simp only [requestOf, reduceCtorEq] at hi
  case requestFrame tag code params =>
    simp only [exec, execRequestFrame] at h
    exact event_reaches h hs (fun u _ => deliver_reaches _ u)
  case ack session cls seq =>
    simp only [exec, execAck] at h
    exact event_reaches h hs (fun u _ => deliver_reaches _ u)
  case ackWrongLength rest =>
    simp only [exec, execAckWrongLength] at h
    refine event_reaches h hs fun u _ => ?_
    split
    · exact .refl u
    · exact deliver_reaches _ u
  case unknownTypeFrame type rest =>
    simp only [exec, execUnknownTypeFrame] at h
    refine event_reaches h hs fun u _ => ?_
    split
    · exact .refl u
    · exact deliver_reaches _ u
  case frameDiscard why =>
    simp only [exec, execFrameDiscard] at h
    refine event_reaches h hs fun u hu => ?_
    split
    · cases why with
      | lenOutOfRange b => exact takeCharacter_reaches b u
      | crcFailure b => exact takeCharacter_reaches b u
      | framingError released => exact takeFramingError_reaches released hu
    · exact .refl u
  case gapExpiry =>
    simp only [exec, execGapExpiry] at h
    refine event_reaches h hs fun u _ => ?_
    split
    · exact discardFrame_reaches u
    · exact .refl u
  case frameTransmitEnd =>
    simp only [exec, execFrameTransmitEnd] at h
    exact event_reaches h hs (fun u _ => frameSent_reaches u)
  case edgeRecognized channel =>
    simp only [exec, execEdgeRecognized] at h
    refine event_reaches h hs fun u _ => ?_
    split
    · exact sample_reaches _ _ u
    · exact .refl u
  case baseline channel level =>
    simp only [exec, execBaseline] at h
    refine event_reaches h hs fun u _ => ?_
    split
    · exact sample_reaches _ _ u
    · exact .refl u
  case saturationPoint channel =>
    simp only [exec, execSaturationPoint] at h
    exact event_reaches h hs (fun u _ => saturate_reaches _ u)
  case timerExpiry timer =>
    simp only [exec, execTimerExpiry] at h
    exact event_reaches h hs (fun u _ => expire_reaches _ u)
  case pulseEnd line =>
    simp only [exec, execPulseEnd] at h
    exact event_reaches h hs (fun u _ => pulseEnds_reaches _ u)
  case retransmitTimerExpiry cls =>
    simp only [exec, execRetransmitTimerExpiry] at h
    exact event_reaches h hs (fun u _ => retransmitExpires_reaches _ u)
  case silenceExpiry =>
    simp only [exec, execSilenceExpiry] at h
    exact event_reaches h hs (fun u _ => silenceExpires_reaches u)
  case batchHoldReached cls =>
    simp only [exec, execBatchHoldReached] at h
    refine event_reaches h hs fun u _ => ?_
    split
    · exact arbitrate_reaches u
    · exact .refl u
  case agedMark cls number =>
    simp only [exec, execAgedMark] at h
    exact event_reaches h hs (fun u _ => (Change.age cls number).reaches)
  case powerOnReset => cases h; exact (Change.hold _).reaches
  case resetnLow => cases h; exact (Change.hold _).reaches
  case resetRelease =>
    simp only [exec, execResetRelease] at h
    split at h
    · cases h; exact (Change.release _).reaches.trans (settle_reaches _)
    · cases h; exact .refl s
  case sampleInstant channel level =>
    simp only [exec, execSampleInstant] at h
    exact event_reaches h hs (fun u _ => sample_reaches _ _ u)
  case characterReceived byte =>
    simp only [exec, execCharacterReceived] at h
    exact event_reaches h hs (fun u _ => takeCharacter_reaches _ u)
  case unknownCodeRequest tag code params =>
    simp only [exec, execUnknownCodeRequest] at h
    have hc : requestCodes.contains code = true := by simpa using hi
    refine event_reaches h hs fun u _ => ?_
    rw [if_pos hc]

theorem exec_reaches {i : Instr} {s t : State} (hs : A → GapAhead s) (h : exec i s = .next t) : Reaches A s t := by
  rcases none_or_some (requestOf i) with hi | ⟨r, hi⟩
  · exact exec_reaches_of_no_request hi hs h
  · rw [exec_request hi] at h
    exact event_reaches h hs (fun u _ => request_reaches r u)

theorem idle_reaches {s : State} (h : dueCommand s = none) : Reaches A s (idle s) := by
  unfold idle
  split
  · exact .refl s
  · next hh =>
    split
    · exact settle_reaches s
    · refine (Change.tick (by simpa using hh) ?_).reaches
      rw [dueCommand, if_neg hh] at h
      simpa using h

/-- Every step is a run of elementary changes. -/
theorem step_reaches {s t : State} (h : step s = .next t) : Reaches (GapAhead s) s t := by
  unfold step at h
  split at h
  · next c rest _ => exact (Change.pending rest).reaches.trans (exec_reaches (s := { s with pending := rest }) id h)
  · split at h
    · exact exec_reaches id h
    · next hd => cases h; exact idle_reaches hd

/-- What every elementary change keeps, every step keeps. -/
theorem step_keeps {P : State → Prop} (hP : ∀ (A : Prop) (s t : State), Change A s t → P s → P t) {s t : State} (hs : P s)
    (h : step s = .next t) : P t :=
  (step_reaches h).keeps (hP _) hs

end Sys2Proof.Machine
end

section
/-! SUPPORT. Locks, channels and entries (R52, R59 to R61, R72, R80, R100, R101, R127, R128): every elementary change keeps their
conditions, and so does every step. -/

namespace Sys2Proof.Machine

open Sys2Proof

variable {A : Prop}

/-! ### Blocks at their defaults -/

theorem channelAt_of_default {s : State} (h : s.channels = Vector.replicate 16 Channel.default) (i : ChannelId) :
    channelAt s i = Channel.default := by simp [channelAt, h]

theorem timerAt_of_default {s : State} (h : s.timers = Vector.replicate 4 Timer.default) (t : TimerId) :
    timerAt s t = Timer.default := by simp [timerAt, h]

theorem entryAt_of_default {s : State} (h : s.entries = Vector.replicate 16 Entry.default) (i : EntryId) :
    entryAt s i = Entry.default := by simp [entryAt, h]

theorem outputAt_of_default {s : State} (h : s.outputs = Vector.replicate 8 Output.default) (l : LineId) :
    outputAt s l = Output.default := by simp [outputAt, h]

/-- An operation over all lines acts on each of them. -/
theorem outputAt_of_map {s t : State} {f : Output → Output} (h : t.outputs = s.outputs.map f) (l : LineId) :
    outputAt t l = f (outputAt s l) := by simp [outputAt, h]

/-- An operation over all classes acts on each of them. -/
theorem classAt_of_map {s t : State} {f : ClassState → ClassState} (h : t.classes = s.classes.map f) (c : Cls) :
    classAt t c = f (classAt s c) := by simp [classAt, h]

/-! ### Locks -/

/-- R127: what LocksSafe asks of one line. -/
def LineSafe (link : LinkState) (o : Output) : Prop :=
  (o.locked = true ↔ (link = .stalled ∧ o.policy = .drive)) ∧ (o.locked = true → o.level = o.safeLevel ∧ o.pulse = none)

theorem lineSafe_default (link : LinkState) : LineSafe link Output.default := by
  simp [LineSafe, Output.default]

/-- Outside STALLED a line is safe exactly when it is not locked. -/
theorem lineSafe_iff_of_not_stalled {link : LinkState} {o : Output} (h : link ≠ .stalled) : LineSafe link o ↔ o.locked = false := by
  simp only [LineSafe, h, false_and, iff_false, Bool.not_eq_true]
  constructor
  · exact fun hs => hs.1
  · intro hl; simp [hl]

theorem lineSafe_of_outputChange {now : Time} {link : LinkState} {o x : Output} (h : OutputChange now link o x)
    (ho : LineSafe link o) : LineSafe link x := by
  obtain ⟨hiff, hlevel⟩ := ho
  cases h with
  | claim op hl =>
    have hpolicy : (applyClaim now op o).policy = o.policy := by cases op <;> rfl
    have hlocked : (applyClaim now op o).locked = o.locked := by cases op <;> rfl
    simp only [LineSafe, hpolicy, hlocked, hl]
    exact ⟨by rw [← hl]; exact hiff, by simp⟩
  | endPulse =>
    cases hp : o.pulse with
    | none => simpa [endPulse, hp] using ⟨hiff, hlevel⟩
    | some p =>
      have hl : o.locked = false := by
        by_contra hl
        obtain ⟨-, hn⟩ := hlevel (by simpa using hl)
        rw [hp] at hn; cases hn
      simp only [endPulse, hp, LineSafe, hl]
      exact ⟨by rw [← hl]; exact hiff, by simp⟩
  | configure p v hl =>
    rw [lineSafe_iff_of_not_stalled hl]
    exact (lineSafe_iff_of_not_stalled (o := o) hl).mp ⟨hiff, hlevel⟩

/-- R127: the safe state locks the DRIVE lines of a link that stalls. -/
theorem lineSafe_stalled {o : Output} (h : o.locked = false) :
    LineSafe .stalled (if o.policy = .drive then { o with level := o.safeLevel, pulse := none, locked := true } else o) := by
  split
  · next hp => simp [LineSafe, hp]
  · next hp => simp [LineSafe, hp, h]

theorem locksSafe_of_not_stalled {s t : State} (hs : LocksSafe s) (hls : s.link ≠ .stalled) (hlt : t.link ≠ .stalled)
    (ho : t.outputs = s.outputs) : LocksSafe t := fun l => by
  have hl := (lineSafe_iff_of_not_stalled hls).mp (hs l)
  have : outputAt t l = outputAt s l := by simp [outputAt, ho]
  rw [this]
  exact (lineSafe_iff_of_not_stalled hlt).mpr hl

theorem locksSafe_of_unlocked {s t : State} (hlt : t.link ≠ .stalled)
    (ho : t.outputs = s.outputs.map (fun o => { o with locked := false })) : LocksSafe t := fun l => by
  rw [outputAt_of_map ho]
  exact (lineSafe_iff_of_not_stalled hlt).mpr rfl

theorem locksSafe_of_default {t : State} (ho : t.outputs = Vector.replicate 8 Output.default) : LocksSafe t := fun l => by
  rw [outputAt_of_default ho]
  exact lineSafe_default t.link

theorem locksSafe_of_change {s t : State} (h : Change A s t) (hs : LocksSafe s) : LocksSafe t := by
  cases h with
  | output l x hx =>
    intro k
    rw [outputAt_setOutput]
    split
    · next hk => subst hk; exact lineSafe_of_outputChange hx (hs k)
    · exact hs k
  | openSession => exact locksSafe_of_unlocked (by simp [openSession, clearLocks]) rfl
  | quiet w hl => exact locksSafe_of_not_stalled hs (by simp [hl]) (by simp) rfl
  | resumeQuiet w hl => exact locksSafe_of_not_stalled hs (by simp [hl]) (by simp) rfl
  | resumeStalled hl => exact locksSafe_of_unlocked (s := s) (by simp [clearLocks]) rfl
  | stall cause hl =>
    intro l
    have hunlocked := (lineSafe_iff_of_not_stalled (by simp [hl])).mp (hs l)
    rw [outputAt_of_map rfl]
    exact lineSafe_stalled hunlocked
  | linkReset => exact locksSafe_of_unlocked (by simp [linkReset, clearLocks]) rfl
  | captureReset => exact locksSafe_of_default rfl
  | allReset => exact locksSafe_of_default rfl
  | hold => exact locksSafe_of_default rfl
  | release => exact locksSafe_of_default rfl
  | _ => exact hs

/-- Settles O56: every elementary change keeps the locks. -/
theorem stepKeepsTheLocks : Obligations.StepKeepsTheLocks :=
  fun _ _ hs h => step_keeps (fun _ _ _ => locksSafe_of_change) hs h

/-! ### Channels -/

theorem channelOk_default : ChannelOk Channel.default := by
  simp [ChannelOk, Channel.default]

/-- R54: a sample that completes no run leaves one shorter than the filter count. -/
theorem brokenOrLongerRun_length {now : Time} {level : Bool} {c : Channel} {r : Run} (hoff : c.sampler ≠ .off)
    (hnone : completedRun now level c = none) (hr : brokenOrLongerRun now level c = some r) :
    r = extendRun now level c.run ∧ r.length < c.filterCount.toNat := by
  unfold completedRun at hnone
  unfold brokenOrLongerRun at hr
  cases hs : c.sampler with
  | off => exact absurd hs hoff
  | settling =>
    simp only [hs] at hr hnone
    cases hr
    exact ⟨rfl, by simpa using hnone⟩
  | stable filtered =>
    simp only [hs] at hr hnone
    split at hr
    · cases hr
    · next hl =>
      cases hr
      exact ⟨rfl, by simpa [hl] using hnone⟩

theorem extendRun_length_pos (now : Time) (level : Bool) (run : Option Run) : 1 ≤ (extendRun now level run).length := by
  unfold extendRun
  split
  · split <;> simp
  · simp

/-- R53: only a sampling channel takes a sample. -/
theorem sampler_ne_off_of_sampleDue {now : Time} {c : Channel} (h : sampleDue now c = true) : c.sampler ≠ .off := by
  simp only [sampleDue, Bool.and_eq_true, bne_iff_ne] at h
  obtain ⟨⟨hoff, -⟩, -⟩ := h
  exact hoff

theorem count_lt_threshold {n m : Word16} (hn : n.toNat < m.toNat) (h : n + 1 ≠ m) : (n + 1).toNat < m.toNat := by
  bv_omega

theorem channelOk_of_channelChange {now : Time} {c x : Channel} (h : ChannelChange now c x) (hc : ChannelOk c) : ChannelOk x := by
  obtain ⟨hset, hoff, hrun, hmeas, hcount⟩ := hc
  cases h with
  | enable =>
    unfold enabledChannel
    split
    · next hs =>
      exact ⟨hset, by simp, by simp, hmeas, hcount⟩
    · exact ⟨hset, hoff, hrun, hmeas, hcount⟩
  | disable =>
    unfold disabledChannel
    split
    · exact ⟨hset, hoff, hrun, hmeas, hcount⟩
    · exact ⟨hset, by simp [disarmedChannel], by simp, by simp [disarmedChannel], by simp [disarmedChannel]⟩
  | arm hs =>
    refine ⟨hset, fun h => absurd h hs, hrun, by simp [armedChannel], fun e _ _ => ?_⟩
    obtain ⟨-, -, ht⟩ := hset
    show (0 : Word16).toNat < c.threshold.toNat
    bv_omega
  | disarm => exact ⟨hset, fun h => ⟨rfl, (hoff h).2⟩, hrun, by simp [disarmedChannel], by simp [disarmedChannel]⟩
  | unsee => exact ⟨hset, hoff, hrun, hmeas, hcount⟩
  | reconfigure s harmed hx =>
    have hnomeas : ∀ m, c.measurement ≠ some m := fun m hm => by simp [harmed] at hmeas; exact hmeas m hm
    unfold reconfigured
    dsimp only
    split
    · next hkeep =>
      refine ⟨hx, hoff, fun r hr => ?_, fun m hm => absurd hm (hnomeas m), fun e _ ha => ?_⟩
      · rcases hkeep with hs | ⟨-, hf⟩
        · rw [(hoff hs).2.1] at hr; cases hr
        · show 1 ≤ r.length ∧ r.length < s.filterCount.toNat
          rw [hf]
          exact hrun r hr
      · exact absurd (harmed.symm.trans ha) (by simp)
    · refine ⟨hx, by simp, by simp, fun m hm => absurd hm (hnomeas m), fun e _ ha => ?_⟩
      exact absurd (harmed.symm.trans ha) (by simp)
  | sampleCounts level hdue hnone =>
    have hs := sampler_ne_off_of_sampleDue hdue
    refine ⟨hset, fun h => absurd h hs, fun r hr => ?_, hmeas, hcount⟩
    obtain ⟨rfl, hlt⟩ := brokenOrLongerRun_length hs hnone hr
    exact ⟨extendRun_length_pos _ _ _, hlt⟩
  | baseline level hdue => exact ⟨hset, by simp, by simp, hmeas, hcount⟩
  | edge level hdue => exact ⟨hset, by simp [edgeSeen], by simp [edgeSeen], hmeas, hcount⟩
  | edgeBeginsWidth level r p hdue hr harmed hmode =>
    exact ⟨hset, by simp [edgeSeen], by simp [edgeSeen], fun _ _ => ⟨harmed, p, hmode⟩, hcount⟩
  | endWidth => exact ⟨hset, hoff, hrun, by simp, hcount⟩
  | saturate m hm =>
    obtain ⟨harmed, hmode⟩ := hmeas m hm
    exact ⟨hset, hoff, hrun, fun _ _ => ⟨harmed, hmode⟩, hcount⟩
  | countUp hne => exact ⟨hset, hoff, hrun, hmeas, fun e he ha => count_lt_threshold (hcount e he ha) hne⟩
  | countAgain =>
    refine ⟨hset, hoff, hrun, hmeas, fun e _ _ => ?_⟩
    obtain ⟨-, -, ht⟩ := hset
    show (0 : Word16).toNat < c.threshold.toNat
    bv_omega

theorem channelsSafe_of_default {t : State} (h : t.channels = Vector.replicate 16 Channel.default) : ChannelsSafe t := fun i => by
  rw [channelAt_of_default h]
  exact channelOk_default

theorem channelsSafe_of_change {s t : State} (h : Change A s t) (hs : ChannelsSafe s) : ChannelsSafe t := by
  cases h with
  | channel i x hx =>
    intro k
    rw [channelAt_setChannel]
    split
    · next hk => subst hk; exact channelOk_of_channelChange hx (hs k)
    · exact hs k
  | captureReset => exact channelsSafe_of_default rfl
  | allReset => exact channelsSafe_of_default rfl
  | hold => exact channelsSafe_of_default rfl
  | release => exact channelsSafe_of_default rfl
  | _ => exact hs

/-! ### Entries -/

theorem entryOk_default : EntryOk Entry.default := ⟨rfl, rfl⟩

theorem toNat_pred_le (r : Byte) (n : Nat) (h : r.toNat ≤ n) (hr : r ≠ 0) : (r - 1).toNat ≤ n := by
  bv_omega

theorem entryOk_of_entryChange {e x : Entry} (h : EntryChange e x) (he : EntryOk e) : EntryOk x := by
  cases h with
  | arm =>
    unfold armedEntry
    split
    · exact he
    · next c hs =>
      simp only [EntryOk, hs] at he ⊢
      obtain ⟨h1, h4, -⟩ := he
      exact ⟨h1, h4, Nat.le_refl _, id⟩
    · next c hs =>
      simp only [EntryOk, hs] at he ⊢
      obtain ⟨h1, h4, -, -⟩ := he
      exact ⟨h1, h4, Nat.le_refl _, id⟩
  | disarm =>
    unfold disarmedEntry
    split
    · next c hs =>
      simp only [EntryOk, hs] at he ⊢
      obtain ⟨h1, h4, hr, -⟩ := he
      exact ⟨h1, h4, hr⟩
    · exact he
  | clear => exact entryOk_default
  | load c hc => exact ⟨hc.1, hc.2, Nat.zero_le _⟩
  | countFiring hne =>
    cases hs : e.state with
    | empty => exact absurd hs hne
    | disarmed c => simpa [EntryOk, hs] using he
    | armed c => simpa [EntryOk, hs] using he
  | spend c hs hr hl =>
    simp only [EntryOk, hs] at he ⊢
    obtain ⟨h1, h4, hle, hne⟩ := he
    exact ⟨h1, h4, toNat_pred_le _ _ hle (hne hl), fun _ => hr⟩
  | spendLast c hs =>
    simp only [EntryOk, hs] at he ⊢
    obtain ⟨h1, h4, -, -⟩ := he
    exact ⟨h1, h4, Nat.zero_le _⟩

theorem entriesSafe_of_default {t : State} (h : t.entries = Vector.replicate 16 Entry.default) : EntriesSafe t := fun i => by
  rw [entryAt_of_default h]
  exact entryOk_default

theorem entriesSafe_of_change {s t : State} (h : Change A s t) (hs : EntriesSafe s) : EntriesSafe t := by
  cases h with
  | entry i x hx =>
    intro k
    rw [entryAt_setEntry]
    split
    · next hk => subst hk; exact entryOk_of_entryChange hx (hs k)
    · exact hs k
  | captureReset => exact entriesSafe_of_default rfl
  | allReset => exact entriesSafe_of_default rfl
  | hold => exact entriesSafe_of_default rfl
  | release => exact entriesSafe_of_default rfl
  | _ => exact hs

/-- Settles O59: every elementary change keeps the conditions of the channels, and those of the entries. -/
theorem stepKeepsChannelsAndEntries : Obligations.StepKeepsChannelsAndEntries :=
  ⟨fun _ _ hs h => step_keeps (fun _ _ _ => channelsSafe_of_change) hs h,
    fun _ _ hs h => step_keeps (fun _ _ _ => entriesSafe_of_change) hs h⟩

end Sys2Proof.Machine
end

section
/-! SUPPORT. ATTN, the silence timer, the handler and the receiver (R143, R145, R146, R154, R158, R169, R174). ATTN and the takes are a
matter of what ends every event; the rest is kept by every elementary change. -/

namespace Sys2Proof.Machine

open Sys2Proof

variable {A : Prop}

/-! ### How a step ends -/

/-- Every command but those of a hard reset is an event. -/
theorem exec_eq_event (i : Instr) (h1 : i ≠ .powerOnReset) (h2 : i ≠ .resetnLow) (h3 : i ≠ .resetRelease) :
    ∃ f, ∀ s, exec i s = event f s := by
  rcases none_or_some (requestOf i) with hi | ⟨r, hi⟩
  · cases i <;> simp only [requestOf, reduceCtorEq] at hi
    case powerOnReset => exact absurd rfl h1
    case resetnLow => exact absurd rfl h2
    case resetRelease => exact absurd rfl h3
    case unknownCodeRequest tag code params => exact ⟨_, execUnknownCodeRequest.eq_1 tag code params⟩
    case ackWrongLength rest => exact ⟨_, execAckWrongLength.eq_1 rest⟩
    case unknownTypeFrame type rest => exact ⟨_, execUnknownTypeFrame.eq_1 type rest⟩
    case frameDiscard why => exact ⟨_, execFrameDiscard.eq_1 why⟩
    case gapExpiry => exact ⟨_, execGapExpiry.eq_1⟩
    case edgeRecognized channel => exact ⟨_, execEdgeRecognized.eq_1 channel⟩
    case baseline channel level => exact ⟨_, execBaseline.eq_1 channel level⟩
    case batchHoldReached cls => exact ⟨_, execBatchHoldReached.eq_1 cls⟩
    case agedMark cls number => exact ⟨_, execAgedMark.eq_1 cls number⟩
    all_goals exact ⟨_, fun _ => rfl⟩
  · exact ⟨_, exec_request hi⟩

/-- A command ends with what follows every event, or leaves the state alone, or begins a hard reset. -/
theorem exec_ends {i : Instr} {s t : State} (h : exec i s = .next t) :
    (∃ u, t = settle u) ∨ t = s ∨ ∃ cause, t = heldInReset cause s := by
  by_cases h1 : i = .powerOnReset
  · subst h1; cases h; exact .inr (.inr ⟨_, rfl⟩)
  by_cases h2 : i = .resetnLow
  · subst h2; cases h; exact .inr (.inr ⟨_, rfl⟩)
  by_cases h3 : i = .resetRelease
  · subst h3
    simp only [exec, execResetRelease] at h
    split at h <;> cases h
    · exact .inl ⟨_, rfl⟩
    · exact .inr (.inl rfl)
  obtain ⟨f, hf⟩ := exec_eq_event i h1 h2 h3
  rw [hf, event] at h
  split at h <;> cases h
  · exact .inr (.inl rfl)
  · exact .inl ⟨_, rfl⟩

/-- How a step ends: as a command does, the command out of its queue, or with the passing of a microsecond. -/
theorem step_ends {s t : State} (h : step s = .next t) :
    (∃ u, t = settle u) ∨ (∃ commands, t = { s with pending := commands }) ∨
      (∃ cause commands, t = heldInReset cause { s with pending := commands }) ∨ (dueCommands s = [] ∧ canTake s = false ∧ t = tick s) := by
  unfold step at h
  split at h
  · next c rest _ =>
    rcases exec_ends h with hu | ht | ⟨cause, ht⟩
    · exact .inl hu
    · exact .inr (.inl ⟨rest, ht⟩)
    · exact .inr (.inr (.inl ⟨cause, rest, ht⟩))
  · split at h
    · rcases exec_ends h with hu | ht | ⟨cause, ht⟩
      · exact .inl hu
      · exact .inr (.inl ⟨s.pending, ht⟩)
      · exact .inr (.inr (.inl ⟨cause, s.pending, ht⟩))
    · next hd =>
      cases h
      unfold idle
      split
      · exact .inr (.inl ⟨s.pending, rfl⟩)
      · next hh =>
        split
        · exact .inl ⟨s, rfl⟩
        · next hc =>
          rw [dueCommand, if_neg hh] at hd
          simp only [Bool.or_eq_true, not_or, Bool.not_eq_true] at hc
          exact .inr (.inr (.inr ⟨by simpa using hd, hc.2, rfl⟩))

/-! ### ATTN -/

/-- R145: the level of ATTN as the rule says it. -/
theorem attnLevel_iff (s : State) : attnLevel s = true ↔ s.hardReset = none ∧
    (s.link = .down ∨ s.link = .stalled ∨ ∃ w c : Cls, s.link = .quiet (some w) ∧ c ≤ w ∧ (classAt s c).unsent ≠ []) := by
  unfold attnLevel
  rcases none_or_some s.hardReset with hh | ⟨cause, hh⟩
  · cases hl : s.link with
    | quiet w =>
      cases w with
      | none => simp [hh]
      | some w =>
        have hall : ∀ p : Cls → Bool, [0, 1, 2, 3].any p = true ↔ ∃ c, p c = true := fun p => by
          simp [Fin.exists_fin_succ]
        simp only [hh, Option.isSome_none, Bool.false_eq_true, if_false, hall, Bool.and_eq_true, decide_eq_true_eq,
          Bool.not_eq_true', List.isEmpty_eq_false_iff]
        simp
    | _ => simp [hh]
  · simp [hh]

theorem attnSafe_of_level {s : State} (h : s.attn = attnLevel s) : AttnSafe s := by
  rw [AttnSafe, h, attnLevel_iff]

/-- R145: what ends every event drives ATTN. -/
theorem settle_attn (s : State) : (settle s).attn = attnLevel (settle s) := by
  have h := selectNext_settle s
  rw [selectNext_eq] at h
  conv_lhs => rw [← h]
  conv_rhs => rw [← h]
  rfl

theorem attnSafe_of_step {s t : State} (hs : AttnSafe s) (h : step s = .next t) : AttnSafe t := by
  rcases step_ends h with ⟨u, rfl⟩ | ⟨commands, rfl⟩ | ⟨cause, commands, rfl⟩ | ⟨-, -, rfl⟩
  · exact attnSafe_of_level (settle_attn u)
  · exact hs
  · exact attnSafe_of_level rfl
  · exact hs

/-! ### The silence timer -/

/-- R143: a start leaves the timer running exactly with a limit above 0. -/
theorem silenceStart_isSome (s : State) : (silenceStart s).isSome = true ↔ s.silenceLimit ≠ 0 := by
  unfold silenceStart
  split <;> simp_all

theorem silenceSafe_of_not_up {s : State} (hd : s.silenceDue = none) (hl : s.link ≠ .up) : SilenceSafe s := by
  simp [SilenceSafe, hd, hl]

theorem silenceSafe_of_start {s t : State} (hl : t.link = .up) (hd : t.silenceDue = silenceStart s)
    (hlimit : t.silenceLimit = s.silenceLimit) : SilenceSafe t := by
  simp [SilenceSafe, hl, hd, hlimit, silenceStart_isSome]

theorem silenceSafe_of_change {s t : State} (h : Change A s t) (hs : SilenceSafe s) : SilenceSafe t := by
  cases h with
  | openSession => exact silenceSafe_of_start (s := s) rfl rfl rfl
  | quiet w hl => exact silenceSafe_of_not_up rfl (by simp)
  | resumeQuiet w hl => exact silenceSafe_of_start (s := s) rfl rfl rfl
  | resumeStalled hl => exact silenceSafe_of_start (s := s) rfl rfl rfl
  | configureLink timeout retryLimit silenceLimit =>
    by_cases hl : s.link = .up
    · simp only [SilenceSafe, linkConfigured, hl]
      split <;> simp_all
    · have hd : s.silenceDue = none := by simpa [SilenceSafe, hl] using hs
      exact silenceSafe_of_not_up (by simp [linkConfigured, hl, hd]) hl
  | stall cause hl => exact silenceSafe_of_not_up rfl (by simp [stalled])
  | stopSilence hl => exact silenceSafe_of_not_up rfl hl
  | restartSilence hd => exact silenceSafe_of_start (s := s) (hs.mp hd).1 rfl rfl
  | linkReset => exact silenceSafe_of_not_up rfl (by simp [linkReset, clearLocks])
  | allReset => exact silenceSafe_of_not_up rfl (by simp [allReset, hardDefaults, State.defaults])
  | hold => exact silenceSafe_of_not_up rfl (by simp [heldInReset, hardDefaults, State.defaults])
  | release => exact silenceSafe_of_not_up rfl (by simp [hardDefaults, State.defaults])
  | _ => exact hs

/-- Settles O57: ATTN is driven at the end of every event, and every elementary change keeps the silence timer. -/
theorem stepKeepsAttnAndTheSilenceTimer : Obligations.StepKeepsAttnAndTheSilenceTimer :=
  ⟨fun _ _ hs h => attnSafe_of_step hs h, fun _ _ hs h => step_keeps (fun _ _ _ => silenceSafe_of_change) hs h⟩

/-! ### Notices -/

/-- R146: the kind of a notice, BOOT or STALL. -/
def Notice.isStall : Notice → Bool
  | .stallRetry _ => true
  | .stallSilence => true
  | _ => false

theorem sameKind_eq (m n : Notice) : sameKind m n = (m.isStall == n.isStall) := by
  cases m <;> cases n <;> rfl

/-- R146: there are two kinds, so a queue of distinct kinds holds at most two notices. -/
theorem notices_length_le {queue : List Notice} (h : queue.Pairwise (fun m n => sameKind m n = false)) : queue.length ≤ 2 := by
  have hnodup : (queue.map Notice.isStall).Nodup := by
    rw [List.Nodup, List.pairwise_map]
    exact h.imp fun hk => by simpa [sameKind_eq] using hk
  simpa using hnodup.length_le_card

/-- R146: a notice that replaces one of its kind leaves the kinds of the queue. -/
theorem placeNotice_pairwise (n : Notice) {queue : List Notice} (h : queue.Pairwise (fun m n => sameKind m n = false)) :
    (placeNotice n queue).Pairwise (fun m n => sameKind m n = false) := by
  unfold placeNotice
  split
  · have hkind : ∀ m, (if sameKind n m then n else m).isStall = m.isStall := fun m => by
      split
      · next hk => simpa [sameKind_eq] using hk
      · rfl
    rw [List.pairwise_map]
    refine h.imp fun hk => ?_
    rw [sameKind_eq] at hk ⊢
    rwa [hkind, hkind]
  · next hnone =>
    rw [List.pairwise_append]
    refine ⟨h, List.pairwise_singleton _ _, fun m hm k hk => ?_⟩
    rw [List.mem_singleton] at hk
    subst hk
    simp only [List.any_eq_true, not_exists, not_and] at hnone
    have hne : ¬ k.isStall = m.isStall := by simpa [sameKind_eq] using hnone m hm
    simpa [sameKind_eq] using Ne.symm hne

/-! ### The reply cache -/

theorem cacheWith_length (e : CacheEntry) {cache : List CacheEntry} (h : cache.length ≤ 8) : (cacheWith e cache).length ≤ 8 := by
  have hle := List.length_filter_le (fun x : CacheEntry => x.request.tag != e.request.tag) cache
  unfold cacheWith
  dsimp only
  split
  · next hroom =>
    rw [Config.replyCacheSize] at hroom
    simp only [List.length_append, List.length_singleton]; omega
  · simp only [List.length_append, List.length_singleton, List.length_drop]; omega

/-- R161: the tags stay distinct, for an entry of the same tag is removed. -/
theorem cacheWith_nodup (e : CacheEntry) {cache : List CacheEntry} (h : (cache.map (fun x => x.request.tag)).Nodup) :
    ((cacheWith e cache).map (fun x => x.request.tag)).Nodup := by
  have hkept : ∀ kept : List CacheEntry, kept.Sublist (cache.filter (fun x => x.request.tag != e.request.tag)) →
      ((kept ++ [e]).map (fun x => x.request.tag)).Nodup := fun kept hsub => by
    rw [List.map_append, List.nodup_append]
    refine ⟨h.sublist ((hsub.trans List.filter_sublist).map _), by simp, fun a ha b hb => ?_⟩
    obtain ⟨x, hx, rfl⟩ := List.mem_map.mp ha
    have hb : b = e.request.tag := by simpa using hb
    subst hb
    simpa using (List.mem_filter.mp (hsub.subset hx)).2
  unfold cacheWith
  dsimp only
  split
  · exact hkept _ (List.Sublist.refl _)
  · exact hkept _ (List.drop_sublist _ _)

/-! ### The handler -/

/-- What HandlerSafe asks of the queues and the cache; that no request waits which the handler may take is a matter of how a step ends. -/
structure QueuesSafe (s : State) : Prop where
  requests : s.requestQueue.length ≤ 4
  requestsDistinct : s.requestQueue.Nodup
  replies : s.replyQueue.length ≤ 4
  cache : s.replyCache.length ≤ 8
  tagsDistinct : (s.replyCache.map (fun e => e.request.tag)).Nodup
  kindsDistinct : s.notices.Pairwise (fun m n => sameKind m n = false)

theorem handlerSafe_iff (s : State) : HandlerSafe s ↔ QueuesSafe s ∧ (canTake s = false ∨ s.replyQueue.length = 4) := by
  have htake : ∀ hr : s.replyQueue.length ≤ 4, ((s.requestQueue ≠ [] → s.pendingReset = none → s.replyQueue.length = 4) ↔
      (canTake s = false ∨ s.replyQueue.length = 4)) := fun hr => by
    rw [← Bool.not_eq_true, canTake_iff]
    constructor
    · intro h
      by_cases h4 : s.replyQueue.length = 4
      · exact .inr h4
      · exact .inl fun ⟨hq, _, hp⟩ => h4 (h hq hp)
    · rintro (h | h) hq hp
      · by_contra h4
        exact h ⟨hq, by omega, hp⟩
      · exact h
  constructor
  · rintro ⟨h1, h2, h3, h4, h5, -, h7, h8⟩
    exact ⟨⟨h1, h2, h3, h4, h5, h7⟩, (htake h3).mp h8⟩
  · rintro ⟨⟨h1, h2, h3, h4, h5, h7⟩, h8⟩
    exact ⟨h1, h2, h3, h4, h5, notices_length_le h7, h7, (htake h3).mpr h8⟩

theorem queuesSafe_of_change {s t : State} (h : Change A s t) (hs : QueuesSafe s) : QueuesSafe t := by
  obtain ⟨hrequests, hdistinct, hreplies, hcache, htags, hkinds⟩ := hs
  cases h with
  | sendReply r rest ht hq =>
    rw [hq, List.length_cons] at hreplies
    exact ⟨hrequests, hdistinct, Nat.le_of_succ_le hreplies, hcache, htags, hkinds⟩
  | sendNotice n rest ht hn =>
    rw [hn] at hkinds
    exact ⟨hrequests, hdistinct, hreplies, hcache, htags, hkinds.of_cons⟩
  | openSession => exact ⟨hrequests, hdistinct, hreplies, Nat.zero_le _, List.nodup_nil, hkinds⟩
  | stall cause hl => exact ⟨hrequests, hdistinct, hreplies, hcache, htags, placeNotice_pairwise cause hkinds⟩
  | linkReset => exact ⟨Nat.zero_le _, List.nodup_nil, Nat.zero_le _, Nat.zero_le _, List.nodup_nil, List.Pairwise.nil⟩
  | allReset => exact ⟨Nat.zero_le _, List.nodup_nil, Nat.zero_le _, Nat.zero_le _, List.nodup_nil, List.pairwise_singleton _ _⟩
  | pushRequest r hr hq =>
    refine ⟨?_, ?_, hreplies, hcache, htags, hkinds⟩
    · simp only [List.length_append, List.length_singleton]; omega
    · rw [← List.concat_eq_append]; exact hdistinct.concat hr
  | popRequest r rest hq =>
    rw [hq] at hrequests hdistinct
    exact ⟨Nat.le_of_succ_le hrequests, hdistinct.of_cons, hreplies, hcache, htags, hkinds⟩
  | pushReply r hq =>
    refine ⟨hrequests, hdistinct, ?_, hcache, htags, hkinds⟩
    simp only [List.length_append, List.length_singleton]; omega
  | cacheReply e => exact ⟨hrequests, hdistinct, hreplies, cacheWith_length e hcache, cacheWith_nodup e htags, hkinds⟩
  | hold => exact ⟨Nat.zero_le _, List.nodup_nil, Nat.zero_le _, Nat.zero_le _, List.nodup_nil, List.Pairwise.nil⟩
  | release => exact ⟨Nat.zero_le _, List.nodup_nil, Nat.zero_le _, Nat.zero_le _, List.nodup_nil, List.pairwise_singleton _ _⟩
  | _ => exact ⟨hrequests, hdistinct, hreplies, hcache, htags, hkinds⟩

theorem handlerSafe_of_step {s t : State} (hs : HandlerSafe s) (h : step s = .next t) : HandlerSafe t := by
  rw [handlerSafe_iff] at hs ⊢
  obtain ⟨hqueues, htake⟩ := hs
  refine ⟨step_keeps (fun _ _ _ => queuesSafe_of_change) hqueues h, ?_⟩
  rcases step_ends h with ⟨u, rfl⟩ | ⟨commands, rfl⟩ | ⟨cause, commands, rfl⟩ | ⟨-, hc, rfl⟩
  · exact .inl (settle_canTake u)
  · exact htake
  · exact .inl rfl
  · exact .inl hc

/-! ### The receiver -/

theorem receiverSafe_of_hunt {s : State} (hrx : s.rx = .hunt) (hc : s.candidate = []) (hg : s.gapDue = none) : ReceiverSafe s := by
  rw [ReceiverSafe, hrx]
  exact ⟨hc, hg⟩

theorem receiverSafe_of_change {s t : State} (h : Change A s t) (hs : ReceiverSafe s) : ReceiverSafe t := by
  cases h with
  | allReset => exact receiverSafe_of_hunt rfl rfl rfl
  | collect rx candidate gapDue hr hg => exact hr hs
  | hold => exact receiverSafe_of_hunt rfl rfl rfl
  | release => exact receiverSafe_of_hunt rfl rfl rfl
  | _ => exact hs

/-- Settles O58: every elementary change keeps the queues and the receiver, and every event ends with the takes it allows. -/
theorem stepKeepsHandlerAndReceiver : Obligations.StepKeepsHandlerAndReceiver :=
  ⟨fun _ _ hs h => handlerSafe_of_step hs h, fun _ _ hs h => step_keeps (fun _ _ _ => receiverSafe_of_change) hs h⟩

end Sys2Proof.Machine
end

section
/-! SUPPORT. The record pool, the event numbers and delivery (R1 to R4, R10 to R17, R21, R28, R37, R44 to R46): every elementary change keeps
their conditions, and so does every step. -/

namespace Sys2Proof.Machine

open Sys2Proof

variable {A : Prop}

/-! ### The stored records of a class -/

theorem occupancy_eq (x : ClassState) : occupancy x = (storedRecords x).length := by
  rw [occupancy, storedRecords, List.length_append, Nat.add_comm]

theorem storedRecords_of_absent {x : ClassState} (h : x.frame = none) : storedRecords x = x.unsent := by
  simp [storedRecords, inFlight, h]

theorem storedRecords_of_frame {x : ClassState} {f : InFlight} (h : x.frame = some f) : storedRecords x = f.records ++ x.unsent := by
  simp [storedRecords, inFlight, h]

/-- R17: a frame that goes back to its class leaves the stored records in their order. -/
theorem storedRecords_returnFrame (x : ClassState) : storedRecords (returnFrame x) = storedRecords x := rfl

/-- R16, R35: so does a frame that is built. -/
theorem storedRecords_buildFrame {x : ClassState} (h : x.frame = none) : storedRecords (buildFrame x) = storedRecords x := by
  rw [storedRecords_of_absent h]
  exact List.take_append_drop _ _

/-- R28: so does a frame whose state changes. -/
theorem storedRecords_withFrame {x y : ClassState} {f g : InFlight} (hx : x.frame = some f) (hy : y.frame = some g)
    (hg : g.records = f.records) (hu : y.unsent = x.unsent) : storedRecords y = storedRecords x := by
  rw [storedRecords_of_frame hx, storedRecords_of_frame hy, hg, hu]

theorem holdFrame_cases (x : ClassState) :
    (∃ f d, x.frame = some f ∧ f.state = .waiting d ∧ holdFrame x = { x with frame := some { f with state := .held } }) ∨
      (holdFrame x = x ∧ ∀ f d, x.frame = some f → f.state ≠ .waiting d) := by
  unfold holdFrame
  split
  · next f hf =>
    split
    · next d hd => exact .inl ⟨f, d, hf, hd, rfl⟩
    · next hd => exact .inr ⟨rfl, fun g d hg => by cases hf.symm.trans hg; exact hd d⟩
  · next hf => exact .inr ⟨rfl, fun g d hg => by cases hf.symm.trans hg⟩

theorem unholdFrame_cases (due : Time) (x : ClassState) :
    (∃ f, x.frame = some f ∧ f.state = .held ∧ unholdFrame due x = { x with frame := some { f with state := .waiting due } }) ∨
      (unholdFrame due x = x ∧ ∀ f, x.frame = some f → f.state ≠ .held) := by
  unfold unholdFrame
  split
  · next f hf =>
    split
    · next hd => exact .inl ⟨f, hf, hd, rfl⟩
    · next hd => exact .inr ⟨rfl, fun g hg => by cases hf.symm.trans hg; exact hd⟩
  · next hf => exact .inr ⟨rfl, fun g hg => by cases hf.symm.trans hg⟩

/-- R45: a frame that is held, or whose timer starts again, keeps everything but its state. -/
theorem holdFrame_keeps (x : ClassState) :
    storedRecords (holdFrame x) = storedRecords x ∧ (holdFrame x).nextNumber = x.nextNumber ∧ (holdFrame x).limit = x.limit := by
  rcases holdFrame_cases x with ⟨f, d, hf, -, h⟩ | ⟨h, -⟩ <;> rw [h]
  · exact ⟨storedRecords_withFrame hf rfl rfl rfl, rfl, rfl⟩
  · exact ⟨rfl, rfl, rfl⟩

theorem unholdFrame_keeps (due : Time) (x : ClassState) :
    storedRecords (unholdFrame due x) = storedRecords x ∧ (unholdFrame due x).nextNumber = x.nextNumber ∧
      (unholdFrame due x).limit = x.limit := by
  rcases unholdFrame_cases due x with ⟨f, hf, -, h⟩ | ⟨h, -⟩ <;> rw [h]
  · exact ⟨storedRecords_withFrame hf rfl rfl rfl, rfl, rfl⟩
  · exact ⟨rfl, rfl, rfl⟩

/-- R15: an aged mark keeps the records in their places. -/
theorem storedRecords_ageClass (number : Word16) (now : Time) (x : ClassState) :
    storedRecords (ageClass number now x) = (storedRecords x).map (ageRecord number now) := by
  cases hf : x.frame <;> simp [storedRecords, inFlight, ageClass, hf]

theorem ageRecord_number (number : Word16) (now : Time) (r : Record) : (ageRecord number now r).number = r.number := by
  unfold ageRecord
  split <;> rfl

theorem storedRecords_admitted (x : ClassState) (r : Record) (n p : Word16) :
    storedRecords { x with unsent := x.unsent ++ [r], nextNumber := n, lostPending := p } = storedRecords x ++ [r] :=
  (List.append_assoc _ _ _).symm

theorem classAt_of_defaults {s : State} (h : s.classes = defaultClasses) (c : Cls) :
    ∃ hold, classAt s c = ClassState.default hold := by
  have : classAt s c = defaultClasses[c] := by simp [classAt, h]
  rw [this]
  fin_cases c <;> exact ⟨_, rfl⟩

theorem classAt_captureReset (s : State) (c : Cls) : ∃ hold, classAt (captureReset s) c = captureResetClass hold (classAt s c) := by
  fin_cases c <;> exact ⟨_, rfl⟩

/-! ### The pool -/

/-- A change that adds no record and moves neither a limit nor the reserve keeps the pool. -/
theorem poolSafe_of_le {s t : State} (hs : PoolSafe s) (hocc : ∀ c, occupancy (classAt t c) ≤ occupancy (classAt s c))
    (hlimit : ∀ c, (classAt t c).limit = (classAt s c).limit) (hreserve : t.reserve = s.reserve) : PoolSafe t := by
  obtain ⟨hall, hlower, hclass⟩ := hs
  have h0 := hocc 0
  have h1 := hocc 1
  have h2 := hocc 2
  have h3 := hocc 3
  refine ⟨?_, ?_, fun c => ?_⟩
  · simp only [storedCount] at hall ⊢; omega
  · simp only [lowerOccupancy, hreserve] at hlower ⊢; omega
  · rw [hlimit]; exact (hocc c).trans (hclass c)

/-- A change of one class that adds no record. -/
theorem poolSafe_of_setClass {c : Cls} {x : ClassState} {s : State} (hs : PoolSafe s) (hocc : occupancy x ≤ occupancy (classAt s c))
    (hlimit : x.limit = (classAt s c).limit) : PoolSafe (setClass c x s) := by
  refine poolSafe_of_le hs (fun k => ?_) (fun k => ?_) rfl <;> rw [classAt_setClass] <;> split
  · next hk => subst hk; exact hocc
  · exact Nat.le_refl _
  · next hk => subst hk; exact hlimit
  · rfl

/-- A change of one class that keeps its stored records. -/
theorem poolSafe_of_stored {c : Cls} {x : ClassState} {s : State} (hs : PoolSafe s)
    (hx : storedRecords x = storedRecords (classAt s c)) (hlimit : x.limit = (classAt s c).limit) : PoolSafe (setClass c x s) :=
  poolSafe_of_setClass hs (by rw [occupancy_eq, occupancy_eq, hx]) hlimit

/-- A change of every class that keeps the stored records. -/
theorem poolSafe_of_map {f : ClassState → ClassState} {s t : State} (hs : PoolSafe s) (ht : t.classes = s.classes.map f)
    (hf : ∀ x, storedRecords (f x) = storedRecords x ∧ (f x).limit = x.limit) (hreserve : t.reserve = s.reserve) : PoolSafe t := by
  refine poolSafe_of_le hs (fun c => ?_) (fun c => ?_) hreserve <;> rw [classAt_of_map ht]
  · rw [occupancy_eq, occupancy_eq, (hf _).1]
  · exact (hf _).2

theorem poolSafe_of_empty {t : State} (h : ∀ c, occupancy (classAt t c) = 0) : PoolSafe t := by
  refine ⟨?_, ?_, fun c => ?_⟩
  · simp [storedCount, h]
  · simp [lowerOccupancy, h]
  · simp [h]

/-- Setting one class moves the counts of R1 and R4 by what it adds to that class. -/
theorem counts_setClass (c : Cls) (x : ClassState) (s : State) :
    storedCount (setClass c x s) + occupancy (classAt s c) = storedCount s + occupancy x ∧
      (c ≠ 0 → lowerOccupancy (setClass c x s) + occupancy (classAt s c) = lowerOccupancy s + occupancy x) ∧
      (c = 0 → lowerOccupancy (setClass c x s) = lowerOccupancy s) := by
  simp only [storedCount, lowerOccupancy, classAt_setClass]
  fin_cases c <;> simp <;> omega

/-- R4: C1 to C3 hold no more than all classes do. -/
theorem lowerOccupancy_le (s : State) : lowerOccupancy s ≤ storedCount s := by
  simp only [lowerOccupancy, storedCount]; omega

theorem poolSafe_admitRecord {c : Cls} {o : Content} {s : State} (ha : admits c s = true) (hs : PoolSafe s) :
    PoolSafe (admitRecord c o s) := by
  obtain ⟨hroom, hfree⟩ := (admits_iff c s).mp ha
  obtain ⟨hall, hlower, hclass⟩ := hs
  have hadded : occupancy (classAt (admitRecord c o s) c) = occupancy (classAt s c) + 1 := by
    simp only [admitRecord, classAt_setClass_same, occupancy_eq, storedRecords_admitted, List.length_append, List.length_singleton]
  obtain ⟨hcount, hnot, hzero⟩ := counts_setClass c (classAt (admitRecord c o s) c) s
  rw [show setClass c (classAt (admitRecord c o s) c) s = admitRecord c o s by simp [admitRecord]] at hcount hnot hzero
  rw [hadded] at hcount hnot
  simp only [freeCount, Config.poolSlots] at hfree
  refine ⟨?_, ?_, fun k => ?_⟩
  · split at hfree <;> omega
  · show lowerOccupancy (admitRecord c o s) ≤ 128 - s.reserve.toNat
    by_cases hc : c = 0
    · have := hzero hc; omega
    · have := hnot hc
      have := lowerOccupancy_le s
      rw [if_neg hc] at hfree
      omega
  · by_cases hk : k = c
    · subst hk
      rw [hadded]
      show occupancy (classAt s k) + 1 ≤ (classAt (admitRecord k o s) k).limit.toNat
      simp only [admitRecord, classAt_setClass_same]
      omega
    · rw [admitRecord, classAt_setClass_ne _ _ _ _ hk]; exact hclass k

theorem poolSafe_configureClass {c : Cls} {limit batchMin batchHold frameMax reserve : Byte} {s : State}
    (hfits : occupancyFits c limit reserve s = true) (hs : PoolSafe s) :
    PoolSafe (configureClass c limit batchMin batchHold frameMax reserve s) := by
  obtain ⟨hlimit, hreserve⟩ := (occupancyFits_iff c limit reserve s).mp hfits
  obtain ⟨hall, hlower, hclass⟩ := hs
  have hat : ∀ k, classAt (configureClass c limit batchMin batchHold frameMax reserve s) k =
      if k = c then { classAt s c with limit := limit, batchMin := batchMin, batchHold := batchHold, frameMax := frameMax }
      else classAt s k := fun k => by
    rw [← classAt_setClass, configureClass_eq]; rfl
  have hocc : ∀ k, occupancy (classAt (configureClass c limit batchMin batchHold frameMax reserve s) k) = occupancy (classAt s k) :=
    fun k => by
      rw [hat]
      split
      · next hk => subst hk; rfl
      · rfl
  refine ⟨?_, ?_, fun k => ?_⟩
  · simpa only [storedCount, hocc] using hall
  · have hset : (configureClass c limit batchMin batchHold frameMax reserve s).reserve = if c = 0 then reserve else s.reserve := by
      rw [configureClass_eq]
    simp only [lowerOccupancy, hocc, hset]
    split
    · next hc => exact hreserve hc
    · exact hlower
  · rw [hocc, hat]
    split
    · next hk => subst hk; exact hlimit
    · exact hclass k

theorem poolSafe_of_change {s t : State} (h : Change A s t) (hs : PoolSafe s) : PoolSafe t := by
  cases h with
  | admitted c o ha => exact poolSafe_admitRecord ha hs
  | refuse c => exact poolSafe_of_setClass hs (Nat.le_refl _) rfl
  | acknowledge c => exact poolSafe_of_setClass hs (by simp [occupancy, freeFrame, inFlight]) rfl
  | age c number =>
    refine poolSafe_of_setClass hs ?_ rfl
    rw [occupancy_eq, occupancy_eq, storedRecords_ageClass, List.length_map]
  | flush c => exact poolSafe_of_setClass hs (by simp [occupancy, emptyClass, inFlight]) rfl
  | configureClass c limit batchMin batchHold frameMax reserve hrange hfits =>
    rw [← configureClass_eq]; exact poolSafe_configureClass hfits hs
  | resend c f hf hw => exact poolSafe_of_stored hs (storedRecords_withFrame hf rfl rfl rfl) rfl
  | sendAgain c f ht hl hf hr => exact poolSafe_of_stored hs (storedRecords_withFrame hf rfl rfl rfl) rfl
  | sendNew c ht hl hf hu => exact poolSafe_of_stored hs (storedRecords_buildFrame hf) rfl
  | sentToWait c f hl hf hsend ht =>
    exact poolSafe_of_stored (s := { s with tx := none }) hs (storedRecords_withFrame hf rfl rfl rfl) rfl
  | sentToHold c f w hl hf hsend ht =>
    exact poolSafe_of_stored (s := { s with tx := none }) hs (storedRecords_withFrame hf rfl rfl rfl) rfl
  | openSession => exact poolSafe_of_map (f := restartClass) hs rfl (fun x => ⟨storedRecords_returnFrame x, rfl⟩) rfl
  | quiet w hl => exact poolSafe_of_map (f := holdFrame) hs rfl (fun x => ⟨(holdFrame_keeps x).1, (holdFrame_keeps x).2.2⟩) rfl
  | resumeQuiet w hl =>
    exact poolSafe_of_map (f := unholdFrame (retransmitDue s)) hs rfl
      (fun x => ⟨(unholdFrame_keeps _ x).1, (unholdFrame_keeps _ x).2.2⟩) rfl
  | stall cause hl => exact poolSafe_of_map (f := withFrameReturned) hs rfl (fun x => ⟨storedRecords_returnFrame x, rfl⟩) rfl
  | linkReset => exact poolSafe_of_map (f := restartClass) hs rfl (fun x => ⟨storedRecords_returnFrame x, rfl⟩) rfl
  | captureReset => exact poolSafe_of_empty fun c => by obtain ⟨hold, h⟩ := classAt_captureReset s c; rw [h]; rfl
  | allReset => exact poolSafe_of_empty fun c => by obtain ⟨hold, h⟩ := classAt_of_defaults (s := allReset s) rfl c; rw [h]; rfl
  | hold cause =>
    exact poolSafe_of_empty fun c => by obtain ⟨hold, h⟩ := classAt_of_defaults (s := heldInReset cause s) rfl c; rw [h]; rfl
  | release cause =>
    refine poolSafe_of_empty fun c => ?_
    obtain ⟨hold, h⟩ := classAt_of_defaults (s := { hardDefaults s with notices := [bootNotice cause] }) rfl c
    rw [h]; rfl
  | _ => exact hs

/-- Settles O53: every elementary change keeps the pool. -/
theorem stepKeepsThePool : Obligations.StepKeepsThePool := fun _ _ hs h => step_keeps (fun _ _ _ => poolSafe_of_change) hs h

/-! ### Event numbers -/

/-- R13: the numbers of a list of records end at `next` − 1. -/
def Numbered (next : Word16) (l : List Record) : Prop :=
  l.map (·.number) = (List.range l.length).map (fun i => next - BitVec.ofNat 16 (l.length - i))

theorem numbered_iff (next : Word16) (l : List Record) :
    Numbered next l ↔ ∀ (i : Nat) (h : i < l.length), l[i].number = next - BitVec.ofNat 16 (l.length - i) := by
  constructor
  · intro hn i h
    have := congrArg (fun m => m[i]?) hn
    simpa [h] using this
  · intro hn
    refine List.ext_getElem (by simp) fun i h _ => ?_
    simpa using hn i (by simpa using h)

theorem numbered_nil (next : Word16) : Numbered next [] := rfl

/-- R11: the record that is admitted takes the next number. -/
theorem Numbered.concat {next : Word16} {l : List Record} {r : Record} (h : Numbered next l) (hr : r.number = next) :
    Numbered (next + 1) (l ++ [r]) := by
  rw [numbered_iff] at h ⊢
  intro i hi
  rw [List.length_append, List.length_singleton] at hi ⊢
  by_cases hl : i < l.length
  · rw [List.getElem_append_left hl, h i hl, show l.length + 1 - i = (l.length - i) + 1 by omega, BitVec.ofNat_add]
    exact (add_sub_add_right_eq_sub _ _ _).symm
  · have hlast : i = l.length := by omega
    subst hlast
    simp [hr]

/-- R14, R38: when the oldest records are freed the rest stay numbered. -/
theorem Numbered.of_append {next : Word16} {a b : List Record} (h : Numbered next (a ++ b)) : Numbered next b := by
  rw [numbered_iff] at h ⊢
  intro i hi
  have := h (a.length + i) (by rw [List.length_append]; omega)
  rw [List.getElem_append_right (by omega)] at this
  simpa [Nat.add_sub_add_left] using this

theorem Numbered.map {next : Word16} {l : List Record} (h : Numbered next l) (f : Record → Record)
    (hf : ∀ r, (f r).number = r.number) : Numbered next (l.map f) := by
  simpa [Numbered, Function.comp_def, hf] using h

/-- The numbering looks at the stored records and the next number only. -/
theorem consecutive_of_eq {x y : ClassState} (hx : ConsecutiveNumbers x) (hr : storedRecords y = storedRecords x)
    (hn : y.nextNumber = x.nextNumber) : ConsecutiveNumbers y := by
  rw [ConsecutiveNumbers, hr, hn]; exact hx

theorem numberingSafe_of_setClass {c : Cls} {x : ClassState} {s : State} (hs : NumberingSafe s) (hx : ConsecutiveNumbers x) :
    NumberingSafe (setClass c x s) := fun k => by
  rw [classAt_setClass]
  split
  · exact hx
  · exact hs k

theorem numberingSafe_of_map {f : ClassState → ClassState} {s t : State} (hs : NumberingSafe s) (ht : t.classes = s.classes.map f)
    (hf : ∀ x, storedRecords (f x) = storedRecords x ∧ (f x).nextNumber = x.nextNumber) : NumberingSafe t := fun c => by
  rw [classAt_of_map ht]
  exact consecutive_of_eq (hs c) (hf _).1 (hf _).2

theorem numberingSafe_of_empty {t : State} (h : ∀ c, storedRecords (classAt t c) = []) : NumberingSafe t := fun c => by
  rw [ConsecutiveNumbers, h]; exact numbered_nil _

theorem numberingSafe_of_change {s t : State} (h : Change A s t) (hs : NumberingSafe s) : NumberingSafe t := by
  cases h with
  | admitted c o ha =>
    refine numberingSafe_of_setClass hs ?_
    rw [ConsecutiveNumbers, storedRecords_admitted]
    exact Numbered.concat (hs c) rfl
  | refuse c => exact numberingSafe_of_setClass hs (hs c)
  | acknowledge c => exact numberingSafe_of_setClass hs (Numbered.of_append (hs c))
  | age c number =>
    refine numberingSafe_of_setClass hs ?_
    rw [ConsecutiveNumbers, storedRecords_ageClass]
    exact Numbered.map (hs c) _ (ageRecord_number _ _)
  | flush c => exact numberingSafe_of_setClass hs (numbered_nil _)
  | configureClass c limit batchMin batchHold frameMax reserve hrange hfits =>
    exact numberingSafe_of_setClass (c := c)
      (x := { classAt s c with limit := limit, batchMin := batchMin, batchHold := batchHold, frameMax := frameMax }) hs (hs c)
  | resend c f hf hw =>
    exact numberingSafe_of_setClass hs (consecutive_of_eq (hs c) (storedRecords_withFrame hf rfl rfl rfl) rfl)
  | sendAgain c f ht hl hf hr => exact numberingSafe_of_setClass hs (consecutive_of_eq (hs c) (storedRecords_withFrame hf rfl rfl rfl) rfl)
  | sendNew c ht hl hf hu => exact numberingSafe_of_setClass hs (consecutive_of_eq (hs c) (storedRecords_buildFrame hf) rfl)
  | sentToWait c f hl hf hsend ht =>
    exact numberingSafe_of_setClass (s := { s with tx := none }) hs
      (consecutive_of_eq (hs c) (storedRecords_withFrame hf rfl rfl rfl) rfl)
  | sentToHold c f w hl hf hsend ht =>
    exact numberingSafe_of_setClass (s := { s with tx := none }) hs
      (consecutive_of_eq (hs c) (storedRecords_withFrame hf rfl rfl rfl) rfl)
  | openSession => exact numberingSafe_of_map (f := restartClass) hs rfl fun x => ⟨storedRecords_returnFrame x, rfl⟩
  | quiet w hl => exact numberingSafe_of_map (f := holdFrame) hs rfl fun x => ⟨(holdFrame_keeps x).1, (holdFrame_keeps x).2.1⟩
  | resumeQuiet w hl =>
    exact numberingSafe_of_map (f := unholdFrame (retransmitDue s)) hs rfl
      fun x => ⟨(unholdFrame_keeps _ x).1, (unholdFrame_keeps _ x).2.1⟩
  | stall cause hl => exact numberingSafe_of_map (f := withFrameReturned) hs rfl fun x => ⟨storedRecords_returnFrame x, rfl⟩
  | linkReset => exact numberingSafe_of_map (f := restartClass) hs rfl fun x => ⟨storedRecords_returnFrame x, rfl⟩
  | captureReset => exact numberingSafe_of_empty fun c => by obtain ⟨hold, h⟩ := classAt_captureReset s c; rw [h]; rfl
  | allReset => exact numberingSafe_of_empty fun c => by obtain ⟨hold, h⟩ := classAt_of_defaults (s := allReset s) rfl c; rw [h]; rfl
  | hold cause =>
    exact numberingSafe_of_empty fun c => by obtain ⟨hold, h⟩ := classAt_of_defaults (s := heldInReset cause s) rfl c; rw [h]; rfl
  | release cause =>
    refine numberingSafe_of_empty fun c => ?_
    obtain ⟨hold, h⟩ := classAt_of_defaults (s := { hardDefaults s with notices := [bootNotice cause] }) rfl c
    rw [h]; rfl
  | _ => exact hs

/-- Settles O54: every elementary change keeps the numbering. -/
theorem stepKeepsTheNumbering : Obligations.StepKeepsTheNumbering :=
  fun _ _ hs h => step_keeps (fun _ _ _ => numberingSafe_of_change) hs h

/-! ### Delivery -/

/-- What DeliverySafe asks of one class that stands at `x`. -/
def ClassDelivers (s : State) (c : Cls) (x : ClassState) : Prop :=
  1 ≤ x.frameMax.toNat ∧ x.frameMax.toNat ≤ 8 ∧
    match x.frame with
    | none => x.retryCount = 0
    | some f => FrameSafe s c f

theorem classDelivers_of_absent {s : State} {c : Cls} {x : ClassState} (hm : 1 ≤ x.frameMax.toNat ∧ x.frameMax.toNat ≤ 8)
    (hf : x.frame = none) (hr : x.retryCount = 0) : ClassDelivers s c x := by
  refine ⟨hm.1, hm.2, ?_⟩
  rw [hf]; exact hr

theorem classDelivers_of_frame {s : State} {c : Cls} {x : ClassState} {f : InFlight}
    (hm : 1 ≤ x.frameMax.toNat ∧ x.frameMax.toNat ≤ 8) (hf : x.frame = some f) (hs : FrameSafe s c f) : ClassDelivers s c x := by
  refine ⟨hm.1, hm.2, ?_⟩
  rw [hf]; exact hs

theorem ClassDelivers.frameMax {s : State} {c : Cls} {x : ClassState} (h : ClassDelivers s c x) :
    1 ≤ x.frameMax.toNat ∧ x.frameMax.toNat ≤ 8 := ⟨h.1, h.2.1⟩

theorem ClassDelivers.frameSafe {s : State} {c : Cls} {x : ClassState} {f : InFlight} (h : ClassDelivers s c x)
    (hf : x.frame = some f) : FrameSafe s c f := by
  obtain ⟨-, -, h⟩ := h
  rwa [hf] at h

/-- Where link and transmitter change, what is left to show is that each frame stays in a state its link allows. -/
theorem ClassDelivers.congr {s t : State} {c : Cls} {x : ClassState} (h : ClassDelivers s c x)
    (hf : ∀ f, FrameSafe s c f → FrameSafe t c f) : ClassDelivers t c x := by
  obtain ⟨h1, h8, h⟩ := h
  refine ⟨h1, h8, ?_⟩
  split at h
  · exact h
  · exact hf _ h

/-- With the transmitter IDLE no frame is SENDING, so the frames in flight stay as they may be when it takes one. -/
theorem frameSafe_of_idle {s t : State} {c : Cls} {f : InFlight} (ht : s.tx = none) (hl : t.link = s.link) (h : FrameSafe s c f) :
    FrameSafe t c f := by
  obtain ⟨h1, h8, h⟩ := h
  refine ⟨h1, h8, ?_⟩
  split at h
  · obtain ⟨-, session, records, ends, hx⟩ := h
    rw [ht] at hx; cases hx
  · rwa [← hl] at h
  · rwa [← hl] at h
  · rwa [← hl] at h

theorem deliverySafe_of_idle {s t : State} (hs : DeliverySafe s) (ht : s.tx = none) (hl : t.link = s.link)
    (hc : t.classes = s.classes) : DeliverySafe t := fun c => by
  show ClassDelivers t c (classAt t c)
  have : classAt t c = classAt s c := by simp [classAt, hc]
  rw [this]
  exact ClassDelivers.congr (hs c) fun f => frameSafe_of_idle ht hl

theorem deliverySafe_of_setClass {c : Cls} {x : ClassState} {s : State} (hs : DeliverySafe s) (hx : ClassDelivers s c x) :
    DeliverySafe (setClass c x s) := fun k => by
  show ClassDelivers s k (classAt (setClass c x s) k)
  rw [classAt_setClass]
  split
  · next hk => subst hk; exact hx
  · exact hs k

/-- The class whose report begins or ends changes with the transmitter; no other class has a frame SENDING. -/
theorem deliverySafe_of_setClass_tx {c : Cls} {x : ClassState} {s t : State} (ht : t.classes = (setClass c x s).classes)
    (hs : DeliverySafe s) (hx : ClassDelivers t c x) (hother : ∀ k f, k ≠ c → FrameSafe s k f → FrameSafe t k f) :
    DeliverySafe t := fun k => by
  show ClassDelivers t k (classAt t k)
  rw [show classAt t k = classAt (setClass c x s) k by simp only [classAt, ht], classAt_setClass]
  split
  · next hk => subst hk; exact hx
  · next hk => exact ClassDelivers.congr (hs k) fun f => hother k f hk

/-- A frame of another class than the one on TXD is not SENDING. -/
theorem frameSafe_of_report {s t : State} {c k : Cls} {f : InFlight} (hk : k ≠ c) (hl : t.link = s.link)
    (ht : ∃ session seq records ends, s.tx = some { frame := .report session c seq records, ends := ends }) (h : FrameSafe s k f) :
    FrameSafe t k f := by
  obtain ⟨session, seq, records, ends, ht⟩ := ht
  obtain ⟨h1, h8, h⟩ := h
  refine ⟨h1, h8, ?_⟩
  split at h
  · obtain ⟨-, session', records', ends', hx⟩ := h
    cases ht.symm.trans hx
    exact absurd rfl hk
  · rwa [← hl] at h
  · rwa [← hl] at h
  · rwa [← hl] at h

theorem deliverySafe_of_returned {f : ClassState → ClassState} {s t : State} (hs : DeliverySafe s) (ht : t.classes = s.classes.map f)
    (hf : ∀ x, (f x).frameMax = x.frameMax ∧ (f x).frame = none ∧ (f x).retryCount = 0) : DeliverySafe t := fun c => by
  show ClassDelivers t c (classAt t c)
  rw [classAt_of_map ht]
  obtain ⟨hm, hframe, hr⟩ := hf (classAt s c)
  exact classDelivers_of_absent (by rw [hm]; exact (show ClassDelivers s c _ from hs c).frameMax) hframe hr

theorem default_frameMax (hold : Byte) : 1 ≤ (ClassState.default hold).frameMax.toNat ∧ (ClassState.default hold).frameMax.toNat ≤ 8 := by
  simp [ClassState.default]

theorem deliverySafe_of_defaults {t : State} (ht : t.classes = defaultClasses) : DeliverySafe t := fun c => by
  show ClassDelivers t c (classAt t c)
  obtain ⟨hold, h⟩ := classAt_of_defaults ht c
  rw [h]
  exact classDelivers_of_absent (default_frameMax hold) rfl rfl

/-- R15: the aged mark does not touch the state of a frame. -/
theorem classDelivers_ageClass {s : State} {c : Cls} {x : ClassState} (number : Word16) (now : Time) (h : ClassDelivers s c x) :
    ClassDelivers s c (ageClass number now x) := by
  obtain ⟨h1, h8, h⟩ := h
  refine ⟨h1, h8, ?_⟩
  cases hf : x.frame with
  | none => simpa [ageClass, hf] using h
  | some f => simpa [ageClass, hf, FrameSafe] using h

/-- R35: a frame that is built holds 1 to 8 records. -/
theorem classDelivers_buildFrame {s t : State} {c : Cls} {x : ClassState} (h : ClassDelivers s c x) (hu : x.unsent ≠ [])
    (hl : t.link = .up) (ht : ∃ session records ends, t.tx = some { frame := .report session c x.nextSeq records, ends := ends }) :
    ClassDelivers t c (buildFrame x) := by
  obtain ⟨h1, h8⟩ := h.frameMax
  have hpos := List.length_pos_of_ne_nil hu
  refine classDelivers_of_frame (x := buildFrame x) ⟨h1, h8⟩ rfl ⟨?_, ?_, .inl hl, ht⟩
  · rw [List.length_take]; omega
  · rw [List.length_take]; omega

theorem frameSafe_withState {s t : State} {c : Cls} {f : InFlight} {state : FrameState} (h : FrameSafe s c f)
    (hstate : match state with
      | .sending => (t.link = .up ∨ ∃ w, t.link = .quiet w) ∧ ∃ session records ends, t.tx = some ⟨.report session c f.seq records, ends⟩
      | .waiting _ => t.link = .up
      | .held => ∃ w, t.link = .quiet w
      | .resend => t.link = .up ∨ ∃ w, t.link = .quiet w) : FrameSafe t c { f with state := state } :=
  ⟨h.1, h.2.1, hstate⟩

theorem deliverySafe_quiet {w : Option Cls} {s t : State} (hs : DeliverySafe s) (hlt : t.link = .quiet w)
    (htx : t.tx = s.tx) (hc : t.classes = s.classes.map holdFrame) : DeliverySafe t := fun c => by
  show ClassDelivers t c (classAt t c)
  have hsc : ClassDelivers s c (classAt s c) := hs c
  rw [classAt_of_map hc]
  rcases holdFrame_cases (classAt s c) with ⟨f, d, hf, -, h⟩ | ⟨h, hnot⟩ <;> rw [h]
  · exact classDelivers_of_frame hsc.frameMax rfl (frameSafe_withState (hsc.frameSafe hf) ⟨w, hlt⟩)
  · cases hf : (classAt s c).frame with
    | none => exact classDelivers_of_absent hsc.frameMax hf (by simpa [ClassDelivers, hf] using hsc.2.2)
    | some f =>
      obtain ⟨h1, h8, hstate⟩ := hsc.frameSafe hf
      refine classDelivers_of_frame hsc.frameMax hf ⟨h1, h8, ?_⟩
      cases hst : f.state with
      | waiting d => exact absurd hst (hnot f d hf)
      | sending =>
        rw [hst] at hstate
        exact ⟨.inr ⟨w, hlt⟩, by rw [htx]; exact hstate.2⟩
      | held => exact ⟨w, hlt⟩
      | resend => exact .inr ⟨w, hlt⟩

theorem deliverySafe_resume {due : Time} {s t : State} (hs : DeliverySafe s) (hlt : t.link = .up)
    (htx : t.tx = s.tx) (hc : t.classes = s.classes.map (unholdFrame due)) : DeliverySafe t := fun c => by
  show ClassDelivers t c (classAt t c)
  have hsc : ClassDelivers s c (classAt s c) := hs c
  rw [classAt_of_map hc]
  rcases unholdFrame_cases due (classAt s c) with ⟨f, hf, -, h⟩ | ⟨h, hnot⟩ <;> rw [h]
  · exact classDelivers_of_frame hsc.frameMax rfl (frameSafe_withState (hsc.frameSafe hf) hlt)
  · cases hf : (classAt s c).frame with
    | none => exact classDelivers_of_absent hsc.frameMax hf (by simpa [ClassDelivers, hf] using hsc.2.2)
    | some f =>
      obtain ⟨h1, h8, hstate⟩ := hsc.frameSafe hf
      refine classDelivers_of_frame hsc.frameMax hf ⟨h1, h8, ?_⟩
      cases hst : f.state with
      | waiting d => exact hlt
      | sending =>
        rw [hst] at hstate
        exact ⟨.inl hlt, by rw [htx]; exact hstate.2⟩
      | held => exact absurd hst (hnot f hf)
      | resend => exact .inl hlt

/-- In STALLED and DOWN no frame is in flight, so the link may leave them. -/
theorem frameSafe_of_stalled {s t : State} {c : Cls} {f : InFlight} (hl : s.link = .stalled) (h : FrameSafe s c f) : FrameSafe t c f := by
  obtain ⟨-, -, h⟩ := h
  split at h <;> simp [hl] at h

theorem deliverySafe_of_change {s t : State} (h : Change A s t) (hs : DeliverySafe s) : DeliverySafe t := by
  have hclass : ∀ c, ClassDelivers s c (classAt s c) := hs
  cases h with
  | admitted c o ha => exact deliverySafe_of_setClass hs (hs c)
  | refuse c => exact deliverySafe_of_setClass hs (hs c)
  | acknowledge c => exact deliverySafe_of_setClass hs (classDelivers_of_absent (hclass c).frameMax rfl rfl)
  | age c number => exact deliverySafe_of_setClass hs (classDelivers_ageClass number _ (hs c))
  | flush c => exact deliverySafe_of_setClass hs (classDelivers_of_absent (hclass c).frameMax rfl rfl)
  | configureClass c limit batchMin batchHold frameMax reserve hrange hfits =>
    obtain ⟨-, -, hmin, hmax, hle, -⟩ := (classValuesInRange_iff c limit batchMin frameMax reserve).mp hrange
    exact deliverySafe_of_setClass (c := c)
      (x := { classAt s c with limit := limit, batchMin := batchMin, batchHold := batchHold, frameMax := frameMax }) hs
      ⟨hmin.trans hle, hmax, (hs c).2.2⟩
  | resend c f hf hw =>
    have hfs := (hclass c).frameSafe hf
    have hl : s.link = .up := by
      obtain ⟨-, -, h⟩ := hfs
      rwa [hw] at h
    exact deliverySafe_of_setClass hs (classDelivers_of_frame (hclass c).frameMax rfl (frameSafe_withState hfs (.inl hl)))
  | sendReply r rest ht hq => exact deliverySafe_of_idle hs ht rfl rfl
  | sendNotice n rest ht hn => exact deliverySafe_of_idle hs ht rfl rfl
  | sendAgain c f ht hl hf hr =>
    refine deliverySafe_of_setClass_tx rfl hs ?_ fun k f' _ => frameSafe_of_idle ht rfl
    exact classDelivers_of_frame (hclass c).frameMax rfl
      (frameSafe_withState (state := .sending) ((hclass c).frameSafe hf) ⟨.inl hl, _, _, _, rfl⟩)
  | sendNew c ht hl hf hu =>
    refine deliverySafe_of_setClass_tx rfl hs ?_ fun k f' _ => frameSafe_of_idle ht rfl
    exact classDelivers_buildFrame (hclass c) hu hl ⟨_, _, _, rfl⟩
  | sentToWait c f hl hf hsend ht =>
    refine deliverySafe_of_setClass_tx (s := s) rfl hs ?_ fun k f' hk => frameSafe_of_report hk rfl ht
    exact classDelivers_of_frame (hclass c).frameMax rfl (frameSafe_withState (state := .waiting _) ((hclass c).frameSafe hf) hl)
  | sentToHold c f w hl hf hsend ht =>
    refine deliverySafe_of_setClass_tx (s := s) rfl hs ?_ fun k f' hk => frameSafe_of_report hk rfl ht
    exact classDelivers_of_frame (hclass c).frameMax rfl (frameSafe_withState (state := .held) ((hclass c).frameSafe hf) ⟨w, hl⟩)
  | sent x ht hx =>
    intro c
    show ClassDelivers { s with tx := none } c (classAt s c)
    cases hf : (classAt s c).frame with
    | none => exact classDelivers_of_absent (hclass c).frameMax hf (by simpa [ClassDelivers, hf] using (hclass c).2.2)
    | some f =>
      obtain ⟨h1, h8, hstate⟩ := (hclass c).frameSafe hf
      refine classDelivers_of_frame (hclass c).frameMax hf ⟨h1, h8, ?_⟩
      cases hst : f.state with
      | sending =>
        exfalso
        rw [hst] at hstate
        obtain ⟨hl, session, records, ends, hsx⟩ := hstate
        cases ht.symm.trans hsx
        obtain ⟨hup, hquiet⟩ := hx session c f.seq records rfl f hf hst
        rcases hl with hl | ⟨w, hl⟩
        · exact hup hl
        · exact hquiet w hl
      | waiting d => rwa [hst] at hstate
      | held => rwa [hst] at hstate
      | resend => rwa [hst] at hstate
  | openSession => exact deliverySafe_of_returned (f := restartClass) hs rfl fun x => ⟨rfl, rfl, rfl⟩
  | quiet w hl => exact deliverySafe_quiet hs rfl rfl rfl
  | resumeQuiet w hl => exact deliverySafe_resume hs rfl rfl rfl
  | resumeStalled hl => exact fun c => ClassDelivers.congr (hclass c) fun f => frameSafe_of_stalled hl
  | stall cause hl => exact deliverySafe_of_returned (f := withFrameReturned) hs rfl fun x => ⟨rfl, rfl, rfl⟩
  | linkReset => exact deliverySafe_of_returned (f := restartClass) hs rfl fun x => ⟨rfl, rfl, rfl⟩
  | captureReset =>
    intro c
    show ClassDelivers _ c (classAt (captureReset s) c)
    obtain ⟨hold, h⟩ := classAt_captureReset s c
    rw [h]
    exact classDelivers_of_absent (default_frameMax hold) rfl rfl
  | allReset => exact deliverySafe_of_defaults rfl
  | hold => exact deliverySafe_of_defaults rfl
  | release => exact deliverySafe_of_defaults rfl
  | _ => exact hs

/-- Settles O55: every elementary change keeps each frame in flight in a state its link allows. -/
theorem stepKeepsDelivery : Obligations.StepKeepsDelivery := fun _ _ hs h => step_keeps (fun _ _ _ => deliverySafe_of_change) hs h

end Sys2Proof.Machine
end

section
/-! SUPPORT. What is due (log 4), the step itself, and the times that lie ahead (R34, R53, R69, R70, R75, R88, R124, R177). -/

namespace Sys2Proof.Machine

open Sys2Proof

variable {A : Prop}

/-! ### The events due now -/

theorem transmitEndsNow_iff (s : State) : transmitEndsNow s = true ↔ ∃ f, s.tx = some { frame := f, ends := s.timebase } := by
  unfold transmitEndsNow
  split
  · next x hx =>
    rw [hx, beq_iff_eq]
    exact ⟨fun h => ⟨x.frame, by rw [← h]⟩, fun ⟨f, hf⟩ => by cases hf; rfl⟩
  · next hx => simp [hx]

theorem saturatesNow_iff (now : Time) (c : Channel) :
    saturatesNow now c = true ↔ ∃ m, c.measurement = some m ∧ m.saturated = false ∧ m.saturationPoint = now := by
  unfold saturatesNow
  split
  · next m hm => simp [hm]
  · next hm => simp [hm]

theorem pulseEndsNow_iff (now : Time) (o : Output) : pulseEndsNow now o = true ↔ ∃ p, o.pulse = some p ∧ p.endTime = now := by
  unfold pulseEndsNow
  split
  · next p hp => simp [hp]
  · next hp => simp [hp]

theorem retransmitDueNow_iff (now : Time) (c : ClassState) :
    retransmitDueNow now c = true ↔ ∃ f, c.frame = some f ∧ f.state = .waiting now := by
  unfold retransmitDueNow
  split
  · next f hf => simp [hf]
  · next hf => simp [hf]

theorem mem_agingNow (now : Time) (number : Word16) (c : ClassState) :
    number ∈ agingNow now c ↔
      ∃ r ∈ inFlight c ++ c.unsent, r.number = number ∧ r.aged = false ∧ now = r.admittedAt + 255000 := by
  simp only [agingNow, List.mem_map, List.mem_filter, Bool.and_eq_true, Bool.not_eq_true', beq_iff_eq]
  exact ⟨fun ⟨r, ⟨hr, ha, hn⟩, hnum⟩ => ⟨r, hr, hnum, ha, hn⟩, fun ⟨r, hr, hnum, ha, hn⟩ => ⟨r, ⟨hr, ha, hn⟩, hnum⟩⟩

theorem gapExpiry_mem_dueCommands (s : State) : .gapExpiry ∈ dueCommands s ↔ s.gapDue = some s.timebase := by
  simp [dueCommands]

theorem frameTransmitEnd_mem_dueCommands (s : State) :
    .frameTransmitEnd ∈ dueCommands s ↔ ∃ f, s.tx = some { frame := f, ends := s.timebase } := by
  simp [dueCommands, ← transmitEndsNow_iff]

theorem sampleInstant_mem_dueCommands (i : ChannelId) (level : Bool) (s : State) :
    .sampleInstant i level ∈ dueCommands s ↔ sampleDue s.timebase (channelAt s i) = true ∧ level = s.inputs[i] := by
  have hlevel : s.inputs[i] = level ↔ level = s.inputs[i] := eq_comm
  simpa [dueCommands, allChannels] using fun _ => hlevel

theorem saturationPoint_mem_dueCommands (i : ChannelId) (s : State) :
    .saturationPoint i ∈ dueCommands s ↔
      ∃ m, (channelAt s i).measurement = some m ∧ m.saturated = false ∧ m.saturationPoint = s.timebase := by
  simp [dueCommands, allChannels, ← saturatesNow_iff]

theorem timerExpiry_mem_dueCommands (t : TimerId) (s : State) : .timerExpiry t ∈ dueCommands s ↔ (timerAt s t).due = some s.timebase := by
  simp [dueCommands, allTimers]

theorem pulseEnd_mem_dueCommands (l : LineId) (s : State) :
    .pulseEnd l ∈ dueCommands s ↔ ∃ p, (outputAt s l).pulse = some p ∧ p.endTime = s.timebase := by
  simp [dueCommands, allLines, ← pulseEndsNow_iff]

theorem agedMark_mem_dueCommands (c : Cls) (number : Word16) (s : State) :
    .agedMark c number ∈ dueCommands s ↔
      ∃ r ∈ inFlight (classAt s c) ++ (classAt s c).unsent, r.number = number ∧ r.aged = false ∧ s.timebase = r.admittedAt + 255000 := by
  rw [← mem_agingNow]
  simp [dueCommands, allClasses]

theorem retransmitTimerExpiry_mem_dueCommands (c : Cls) (s : State) :
    .retransmitTimerExpiry c ∈ dueCommands s ↔ ∃ f, (classAt s c).frame = some f ∧ f.state = .waiting s.timebase := by
  simp [dueCommands, allClasses, ← retransmitDueNow_iff]

theorem silenceExpiry_mem_dueCommands (s : State) : .silenceExpiry ∈ dueCommands s ↔ s.silenceDue = some s.timebase := by
  simp [dueCommands]

/-! ### The step -/

theorem offeringClass_isSome (s : State) : (offeringClass s).isSome = true ↔ ∃ c : Cls, offersFrame c s = true := by
  constructor
  · intro h
    obtain ⟨c, hc⟩ := Option.isSome_iff_exists.mp h
    exact ⟨c, (offeringClass_some hc).1⟩
  · rintro ⟨c, hc⟩
    by_contra h
    have := offeringClass_none (by simpa using h) c
    rw [hc] at this; cases this

theorem canSelect_iff (s : State) :
    canSelect s = true ↔ s.tx = none ∧ (s.replyQueue ≠ [] ∨ s.notices ≠ [] ∨ ∃ c : Cls, offersFrame c s = true) := by
  simp [canSelect, offeringClass_isSome, or_assoc]

/-- Settles O1: the front command runs on the rest of the queue. -/
theorem stepRunsTheFrontCommand : Obligations.StepRunsTheFrontCommand := fun c rest s h => by
  rw [step, h]

theorem step_of_due {c : Instr} {s : State} (hp : s.pending = []) (hh : s.hardReset = none) (h : (dueCommands s).head? = some c) :
    step s = exec c s := by
  simp [step, hp, dueCommand, hh, h]

theorem step_of_idle {s : State} (hp : s.pending = []) (h : dueCommands s = []) : step s = .next (idle s) := by
  simp [step, hp, dueCommand, h]

/-- Settles O2: the step by what is due, can be selected or can be taken, and what is due by its kinds. -/
theorem emptyQueueTakesWhatIsDueElseCountsOneMicrosecond : Obligations.EmptyQueueTakesWhatIsDueElseCountsOneMicrosecond := by
  intro s hp hh
  refine ⟨fun c h => step_of_due hp hh h, fun h hgo => ?_, fun h hs ht => ?_, gapExpiry_mem_dueCommands s,
    frameTransmitEnd_mem_dueCommands s, fun i level => sampleInstant_mem_dueCommands i level s,
    fun i => saturationPoint_mem_dueCommands i s, fun t => timerExpiry_mem_dueCommands t s, fun l => pulseEnd_mem_dueCommands l s,
    fun c number => agedMark_mem_dueCommands c number s, fun c => retransmitTimerExpiry_mem_dueCommands c s,
    silenceExpiry_mem_dueCommands s, canSelect_iff s⟩
  · rw [step_of_idle hp h]
    simp [idle, hh, hgo]
  · rw [step_of_idle hp h]
    simp only [idle, hh, hs, ht, tick]
    cases s.rateChange <;> simp [Option.filter]

/-! ### Times that lie ahead -/

/-- R69: a time that lies ahead and is not now lies ahead after one microsecond. -/
theorem ahead_tick {d now : Time} {n : Nat} (h : (d - now).toNat ≤ n) (hne : d ≠ now) : (d - (now + 1)).toNat ≤ n := by
  have hne' : d.toNat ≠ now.toNat := fun he => hne (BitVec.eq_of_toNat_eq he)
  bv_omega

/-- A wait that begins now reaches as far as it is long. -/
theorem ahead_of_start (now : Time) {n bound : Nat} (h : n ≤ bound) : (now + BitVec.ofNat 32 n - now).toNat ≤ bound := by
  rw [add_sub_cancel_left_toNat, BitVec.toNat_ofNat]
  exact (Nat.mod_le _ _).trans h

theorem ahead_of_start24 (now : Time) (n : Word24) : (now + n.setWidth 32 - now).toNat ≤ n.toNat := by
  rw [add_sub_cancel_left_toNat, BitVec.toNat_setWidth]
  exact Nat.mod_le _ _

/-- R88: the due time of a timer. -/
def TimerAhead (now : Time) (t : Timer) : Prop := ∀ d, t.due = some d → (d - now).toNat ≤ t.period.toNat

/-- R124: the end time of the pulse on a line. -/
def PulseAhead (now : Time) (o : Output) : Prop := ∀ p, o.pulse = some p → (p.endTime - now).toNat ≤ 16777215

/-- R41: the due time of the retransmit timer of a class. -/
def RetransmitAhead (now : Time) (c : ClassState) : Prop :=
  ∀ f d, c.frame = some f → f.state = .waiting d → (d - now).toNat ≤ 255000

/-- R75: the saturation point of the measurement of a channel. -/
def SaturationAhead (now : Time) (c : Channel) : Prop :=
  ∀ m, c.measurement = some m → m.saturated = false → (m.saturationPoint - now).toNat ≤ 16777215

/-- R143: the due time of the silence timer. -/
def SilenceAhead (s : State) : Prop := ∀ d, s.silenceDue = some d → (d - s.timebase).toNat ≤ 25500000

/-- R34: the end of the frame on TXD. -/
def TransmitAhead (s : State) : Prop := ∀ x, s.tx = some x → (x.ends - s.timebase).toNat ≤ (frameTime s.rate x.frame).toNat

/-- Log 22: the moment of a rate change is not yet to be forgotten. -/
def RateChangeRecent (s : State) : Prop := ∀ change, s.rateChange = some change → (s.timebase - change.time).toNat < 300000

/-- R152: the timebase is 0 in a hard reset. -/
def HeldAtZero (s : State) : Prop := s.hardReset.isSome = true → s.timebase = 0

theorem timesAhead_iff (s : State) : TimesAhead s ↔
    (∀ t : TimerId, TimerAhead s.timebase (timerAt s t)) ∧ (∀ l : LineId, PulseAhead s.timebase (outputAt s l)) ∧
      (∀ c : Cls, RetransmitAhead s.timebase (classAt s c)) ∧ SilenceAhead s ∧ GapAhead s ∧
      (∀ i : ChannelId, SaturationAhead s.timebase (channelAt s i)) ∧ (∀ i : ChannelId, RunOnTime s.timebase (channelAt s i)) ∧
      TransmitAhead s ∧ RateChangeRecent s ∧ HeldAtZero s := Iff.rfl

/-! ### Timers, pulses and the receiver -/

theorem timerAhead_of_change {now : Time} {t x : Timer} (h : TimerChange now t x) : TimerAhead now x := by
  intro d hd
  cases h with
  | start => cases hd; exact ahead_of_start24 now t.period
  | stop => cases hd
  | configure m period report c hidle => cases hidle.symm.trans hd
  | expire =>
    unfold expiredTimer at hd ⊢
    split at hd
    · cases hd
    · next hm => cases hd; exact ahead_of_start24 now t.period

theorem timerAhead_default (now : Time) : TimerAhead now Timer.default := fun _ h => by cases h

theorem timersAhead_of_change {s t : State} (h : Change A s t) (hs : ∀ k : TimerId, TimerAhead s.timebase (timerAt s k)) :
    ∀ k : TimerId, TimerAhead t.timebase (timerAt t k) := by
  cases h with
  | timer i x hx =>
    intro k
    rw [timerAt_setTimer]
    split
    · next hk => subst hk; exact timerAhead_of_change hx
    · exact hs k
  | tick hh hd =>
    intro k d hk
    refine ahead_tick (hs k d hk) fun he => ?_
    subst he
    have := (timerExpiry_mem_dueCommands k s).mpr hk
    simp [hd] at this
  | captureReset => exact fun k => by rw [timerAt_of_default rfl]; exact timerAhead_default _
  | allReset => exact fun k => by rw [timerAt_of_default rfl]; exact timerAhead_default _
  | hold => exact fun k => by rw [timerAt_of_default rfl]; exact timerAhead_default _
  | release => exact fun k => by rw [timerAt_of_default rfl]; exact timerAhead_default _
  | _ => exact hs

theorem pulseAhead_of_change {now : Time} {link : LinkState} {o x : Output} (h : OutputChange now link o x) (ho : PulseAhead now o) :
    PulseAhead now x := by
  intro p hp
  cases h with
  | claim op hl =>
    cases op with
    | set l v => cases hp
    | toggle l => cases hp
    | pulse l v duration =>
      cases hp
      exact (ahead_of_start24 now duration).trans (by have := duration.isLt; omega)
  | endPulse =>
    unfold endPulse at hp
    split at hp
    · cases hp
    · exact ho p hp
  | configure q v hl => exact ho p hp

theorem pulseAhead_none {now : Time} {o : Output} (h : o.pulse = none) : PulseAhead now o := fun p hp => by cases h.symm.trans hp

theorem pulsesAhead_of_map {s t : State} {f : Output → Output} (ho : t.outputs = s.outputs.map f) (ht : t.timebase = s.timebase)
    (hf : ∀ o, (f o).pulse = o.pulse ∨ (f o).pulse = none) (hs : ∀ l : LineId, PulseAhead s.timebase (outputAt s l)) :
    ∀ l : LineId, PulseAhead t.timebase (outputAt t l) := fun l p hp => by
  rw [outputAt_of_map ho] at hp
  rw [ht]
  rcases hf (outputAt s l) with h | h
  · exact hs l p (h ▸ hp)
  · cases h.symm.trans hp

theorem pulsesAhead_of_change {s t : State} (h : Change A s t) (hs : ∀ l : LineId, PulseAhead s.timebase (outputAt s l)) :
    ∀ l : LineId, PulseAhead t.timebase (outputAt t l) := by
  cases h with
  | output l x hx =>
    intro k
    rw [outputAt_setOutput]
    split
    · next hk => subst hk; exact pulseAhead_of_change hx (hs k)
    · exact hs k
  | tick hh hd =>
    intro l p hp
    refine ahead_tick (hs l p hp) fun he => ?_
    have := (pulseEnd_mem_dueCommands l s).mpr ⟨p, hp, he⟩
    simp [hd] at this
  | openSession => exact pulsesAhead_of_map (s := s) rfl rfl (fun o => .inl rfl) hs
  | resumeStalled hl => exact pulsesAhead_of_map (s := s) rfl rfl (fun o => .inl rfl) hs
  | linkReset => exact pulsesAhead_of_map (s := s) rfl rfl (fun o => .inl rfl) hs
  | stall cause hl => exact pulsesAhead_of_map (s := s) rfl rfl (fun o => by split <;> simp) hs
  | captureReset => exact fun l => by rw [outputAt_of_default rfl]; exact pulseAhead_none rfl
  | allReset => exact fun l => by rw [outputAt_of_default rfl]; exact pulseAhead_none rfl
  | hold => exact fun l => by rw [outputAt_of_default rfl]; exact pulseAhead_none rfl
  | release => exact fun l => by rw [outputAt_of_default rfl]; exact pulseAhead_none rfl
  | _ => exact hs

theorem silenceAhead_of_start {s t : State} (hd : t.silenceDue = silenceStart s) (ht : t.timebase = s.timebase) : SilenceAhead t := by
  intro d h
  rw [hd, silenceStart] at h
  rw [ht]
  split at h
  · cases h
  · cases h
    exact ahead_of_start _ (by have := s.silenceLimit.isLt; omega)

theorem silenceAhead_of_none {s : State} (h : s.silenceDue = none) : SilenceAhead s := fun d hd => by cases h.symm.trans hd

theorem silenceAhead_of_change {s t : State} (h : Change A s t) (hs : SilenceAhead s) : SilenceAhead t := by
  cases h with
  | tick hh hd =>
    intro d h
    refine ahead_tick (hs d h) fun he => ?_
    subst he
    have := (silenceExpiry_mem_dueCommands s).mpr h
    simp [hd] at this
  | openSession => exact silenceAhead_of_start (s := s) rfl rfl
  | resumeQuiet w hl => exact silenceAhead_of_start (s := s) rfl rfl
  | resumeStalled hl => exact silenceAhead_of_start (s := s) rfl rfl
  | restartSilence hd => exact silenceAhead_of_start (s := s) rfl rfl
  | configureLink timeout retryLimit silenceLimit =>
    intro d hd
    simp only [linkConfigured] at hd
    split at hd
    · exact hs d hd
    · split at hd
      · cases hd
      · cases hd
        exact ahead_of_start _ (by have := silenceLimit.isLt; omega)
  | quiet => exact silenceAhead_of_none rfl
  | stall => exact silenceAhead_of_none rfl
  | stopSilence => exact silenceAhead_of_none rfl
  | linkReset => exact silenceAhead_of_none rfl
  | allReset => exact silenceAhead_of_none rfl
  | hold => exact silenceAhead_of_none rfl
  | release => exact silenceAhead_of_none rfl
  | _ => exact hs

theorem gapAhead_of_none {s : State} (h : s.gapDue = none) : GapAhead s := fun d hd => by cases h.symm.trans hd

theorem gapAhead_of_change {s t : State} (h : Change A s t) (hA : A) (hs : GapAhead s) : GapAhead t := by
  cases h with
  | collect rx candidate gapDue hr hg => exact hg hA
  | tick hh hd =>
    intro d h
    refine ahead_tick (hs d h) fun he => ?_
    subst he
    have := (gapExpiry_mem_dueCommands s).mpr h
    simp [hd] at this
  | allReset => exact gapAhead_of_none rfl
  | hold => exact gapAhead_of_none rfl
  | release => exact gapAhead_of_none rfl
  | _ => exact hs

/-! ### The transmitter, rate changes and the hard reset -/

theorem transmitAhead_of_start {s t : State} {f : TxFrame} (ht : t.tx = some { frame := f, ends := s.timebase + frameTime s.rate f })
    (htime : t.timebase = s.timebase) (hrate : t.rate = s.rate) : TransmitAhead t := by
  intro x hx
  cases ht.symm.trans hx
  rw [htime, hrate, add_sub_cancel_left_toNat]

theorem transmitAhead_of_none {s : State} (h : s.tx = none) : TransmitAhead s := fun x hx => by cases h.symm.trans hx

theorem transmitAhead_of_change {s t : State} (h : Change A s t) (hs : TransmitAhead s) : TransmitAhead t := by
  cases h with
  | sendReply => exact transmitAhead_of_start (s := s) rfl rfl rfl
  | sendNotice => exact transmitAhead_of_start (s := s) rfl rfl rfl
  | sendAgain => exact transmitAhead_of_start (s := s) rfl rfl rfl
  | sendNew => exact transmitAhead_of_start (s := s) rfl rfl rfl
  | changeRate r counted ht => exact transmitAhead_of_none ht
  | sentToWait => exact transmitAhead_of_none rfl
  | sentToHold => exact transmitAhead_of_none rfl
  | sent => exact transmitAhead_of_none rfl
  | tick hh hd =>
    intro x hx
    refine ahead_tick (hs x hx) fun he => ?_
    have := (frameTransmitEnd_mem_dueCommands s).mpr ⟨x.frame, by rw [← he]; exact hx⟩
    simp [hd] at this
  | allReset => exact transmitAhead_of_none rfl
  | hold => exact transmitAhead_of_none rfl
  | release => exact transmitAhead_of_none rfl
  | _ => exact hs

theorem rateChangeRecent_of_none {s : State} (h : s.rateChange = none) : RateChangeRecent s := fun x hx => by cases h.symm.trans hx

theorem rateChangeRecent_of_change {s t : State} (h : Change A s t) (hs : RateChangeRecent s) : RateChangeRecent t := by
  cases h with
  | changeRate r counted ht =>
    intro change hc
    cases hc
    simp
  | markCounted =>
    intro change hc
    obtain ⟨old, hold, rfl⟩ := Option.map_eq_some_iff.mp hc
    exact hs old hold
  | tick hh hd =>
    intro change hc
    obtain ⟨-, hrecent⟩ := Option.filter_eq_some_iff.mp hc
    exact of_decide_eq_true hrecent
  | allReset => exact rateChangeRecent_of_none rfl
  | hold => exact rateChangeRecent_of_none rfl
  | release => exact rateChangeRecent_of_none rfl
  | _ => exact hs

theorem heldAtZero_of_change {s t : State} (h : Change A s t) (hs : HeldAtZero s) : HeldAtZero t := by
  cases h with
  | tick hh hd => exact fun h => by simp [tick, hh] at h
  | allReset => exact fun h => rfl
  | hold => exact fun h => rfl
  | release => exact fun h => rfl
  | _ => exact hs

/-! ### Retransmit timers -/

theorem retransmitAhead_of_absent {now : Time} {c : ClassState} (h : c.frame = none) : RetransmitAhead now c :=
  fun f d hf => by cases h.symm.trans hf

theorem retransmitAhead_of_not_waiting {now : Time} {c : ClassState} {f : InFlight} (hf : c.frame = some f)
    (h : ∀ d, f.state ≠ .waiting d) : RetransmitAhead now c := fun g d hg hd => by
  cases hf.symm.trans hg
  exact absurd hd (h d)

theorem retransmitDue_ahead (s : State) : (retransmitDue s - s.timebase).toNat ≤ 255000 :=
  ahead_of_start _ (by have := s.retransmitTimeout.isLt; omega)

theorem retransmitsAhead_of_setClass {s t : State} {c : Cls} {x : ClassState} (ht : t.classes = (setClass c x s).classes)
    (htime : t.timebase = s.timebase) (hs : ∀ k : Cls, RetransmitAhead s.timebase (classAt s k)) (hx : RetransmitAhead s.timebase x) :
    ∀ k : Cls, RetransmitAhead t.timebase (classAt t k) := fun k => by
  rw [htime, show classAt t k = classAt (setClass c x s) k by simp only [classAt, ht], classAt_setClass]
  split
  · exact hx
  · exact hs k

theorem retransmitsAhead_of_returned {s t : State} {f : ClassState → ClassState} (ht : t.classes = s.classes.map f)
    (hf : ∀ x, (f x).frame = none) : ∀ k : Cls, RetransmitAhead t.timebase (classAt t k) := fun k => by
  rw [classAt_of_map ht]
  exact retransmitAhead_of_absent (hf _)

theorem retransmitsAhead_of_defaults {t : State} (ht : t.classes = defaultClasses) :
    ∀ k : Cls, RetransmitAhead t.timebase (classAt t k) := fun k => by
  obtain ⟨hold, h⟩ := classAt_of_defaults ht k
  rw [h]; exact retransmitAhead_of_absent rfl

theorem retransmitsAhead_of_change {s t : State} (h : Change A s t) (hs : ∀ c : Cls, RetransmitAhead s.timebase (classAt s c)) :
    ∀ c : Cls, RetransmitAhead t.timebase (classAt t c) := by
  cases h with
  | admitted c o ha => exact retransmitsAhead_of_setClass (s := s) rfl rfl hs (hs c)
  | refuse c => exact retransmitsAhead_of_setClass (s := s) rfl rfl hs (hs c)
  | acknowledge c => exact retransmitsAhead_of_setClass (s := s) rfl rfl hs (retransmitAhead_of_absent rfl)
  | age c number =>
    refine retransmitsAhead_of_setClass (s := s) rfl rfl hs fun f d hf hd => ?_
    obtain ⟨g, hg, rfl⟩ := Option.map_eq_some_iff.mp hf
    exact hs c g d hg hd
  | flush c => exact retransmitsAhead_of_setClass (s := s) rfl rfl hs (retransmitAhead_of_absent rfl)
  | configureClass c limit batchMin batchHold frameMax reserve hrange hfits =>
    exact retransmitsAhead_of_setClass (s := s) rfl rfl hs (hs c)
  | resend c f hf hw => exact retransmitsAhead_of_setClass (s := s) rfl rfl hs (retransmitAhead_of_not_waiting rfl (by simp))
  | sendAgain c f => exact retransmitsAhead_of_setClass (s := s) rfl rfl hs (retransmitAhead_of_not_waiting rfl (by simp))
  | sendNew c => exact retransmitsAhead_of_setClass (s := s) rfl rfl hs (retransmitAhead_of_not_waiting rfl (by simp))
  | sentToWait c f =>
    refine retransmitsAhead_of_setClass (s := s) rfl rfl hs fun g d hg hd => ?_
    cases hg
    cases hd
    exact retransmitDue_ahead s
  | sentToHold c f => exact retransmitsAhead_of_setClass (s := s) rfl rfl hs (retransmitAhead_of_not_waiting rfl (by simp))
  | openSession => exact retransmitsAhead_of_returned (s := s) (f := restartClass) rfl fun x => rfl
  | linkReset => exact retransmitsAhead_of_returned (s := s) (f := restartClass) rfl fun x => rfl
  | stall => exact retransmitsAhead_of_returned (s := s) (f := withFrameReturned) rfl fun x => rfl
  | quiet w hl =>
    intro c
    rw [classAt_of_map (s := s) (f := holdFrame) rfl]
    rcases holdFrame_cases (classAt s c) with ⟨f, d, -, -, h⟩ | ⟨h, -⟩ <;> rw [h]
    · exact retransmitAhead_of_not_waiting rfl (by simp)
    · exact hs c
  | resumeQuiet w hl =>
    intro c
    rw [classAt_of_map (s := s) (f := unholdFrame (retransmitDue s)) rfl]
    rcases unholdFrame_cases (retransmitDue s) (classAt s c) with ⟨f, -, -, h⟩ | ⟨h, -⟩ <;> rw [h]
    · intro g d hg hd
      cases hg
      cases hd
      exact retransmitDue_ahead s
    · exact hs c
  | tick hh hd =>
    intro c f d hf hw
    refine ahead_tick (hs c f d hf hw) fun he => ?_
    subst he
    have := (retransmitTimerExpiry_mem_dueCommands c s).mpr ⟨f, hf, hw⟩
    simp [hd] at this
  | captureReset =>
    intro c
    obtain ⟨hold, h⟩ := classAt_captureReset s c
    rw [h]; exact retransmitAhead_of_absent rfl
  | allReset => exact retransmitsAhead_of_defaults rfl
  | hold => exact retransmitsAhead_of_defaults rfl
  | release => exact retransmitsAhead_of_defaults rfl
  | _ => exact hs

/-! ### Runs and measurements -/

/-- R53: an interval divides the range of the timebase, so that the sample instants go on through 0. -/
theorem instant_of_next {code : Fin 4} {now last : Time} (hnow : now.toNat % intervalMicros code = 0)
    (hlast : last.toNat % intervalMicros code = 0) (hne : now ≠ last) (hle : (now - last).toNat ≤ intervalMicros code) :
    (now - last).toNat = intervalMicros code := by
  have hne' : now.toNat ≠ last.toNat := fun he => hne (BitVec.eq_of_toNat_eq he)
  fin_cases code <;> simp only [intervalMicros] at * <;> bv_omega

theorem RunOnTime.start_last {now : Time} {c : Channel} {r : Run} (h : RunOnTime now c) (hr : c.run = some r) :
    (r.start + BitVec.ofNat 32 ((r.length - 1) * intervalMicros c.interval)).toNat % intervalMicros c.interval = 0 := by
  obtain ⟨-, -, -, hstart, -⟩ := h r hr
  revert hstart
  generalize c.interval = code
  intro hstart
  fin_cases code <;> simp only [intervalMicros] at * <;> bv_omega

/-- R53, R54: the sample of the present instant that goes on with a run is one interval after the last of it. -/
theorem RunOnTime.now_eq {now : Time} {c : Channel} {r : Run} (h : RunOnTime now c) (hr : c.run = some r)
    (hdue : sampleDue now c = true) : now = r.start + BitVec.ofNat 32 (r.length * intervalMicros c.interval) := by
  have hlastInstant := h.start_last hr
  obtain ⟨-, hpos, -, -, last, htaken, rfl, hle⟩ := h r hr
  simp only [sampleDue, Bool.and_eq_true, bne_iff_ne, beq_iff_eq] at hdue
  obtain ⟨⟨-, hnow⟩, hne⟩ := hdue
  have hstep := instant_of_next hnow hlastInstant (fun he => hne (by rw [htaken, ← he])) hle
  have hlength : r.length * intervalMicros c.interval = (r.length - 1) * intervalMicros c.interval + intervalMicros c.interval := by
    obtain ⟨n, hn⟩ : ∃ n, r.length = n + 1 := ⟨r.length - 1, by omega⟩
    rw [hn, Nat.add_sub_cancel, Nat.succ_mul]
  rw [hlength, BitVec.ofNat_add, ← BitVec.add_assoc]
  apply BitVec.eq_of_toNat_eq
  have : intervalMicros c.interval < 2 ^ 32 := by generalize c.interval = code; revert code; decide
  bv_omega

/-- R54: what a sample that goes on with a run or begins one makes of it: its samples stand one interval apart, the last of them now. -/
theorem extendRun_onTime {now : Time} {c : Channel} (level : Bool) (h : RunOnTime now c) (hdue : sampleDue now c = true) :
    (extendRun now level c.run).start.toNat % intervalMicros c.interval = 0 ∧
      now = (extendRun now level c.run).start +
        BitVec.ofNat 32 (((extendRun now level c.run).length - 1) * intervalMicros c.interval) := by
  have hnow : now.toNat % intervalMicros c.interval = 0 := by
    simp only [sampleDue, Bool.and_eq_true, beq_iff_eq] at hdue
    exact hdue.1.2
  unfold extendRun
  split
  · next r hr =>
    split
    · obtain ⟨-, -, -, hstart, -⟩ := h r hr
      exact ⟨hstart, h.now_eq hr hdue⟩
    · exact ⟨hnow, by simp⟩
  · exact ⟨hnow, by simp⟩

theorem runOnTime_of_none {now : Time} {c : Channel} (h : c.run = none) : RunOnTime now c := fun r hr => by cases h.symm.trans hr

theorem run_none_of_off {now : Time} {c : Channel} (h : RunOnTime now c) (hoff : c.sampler = .off) : c.run = none := by
  rcases none_or_some c.run with hr | ⟨r, hr⟩
  · exact hr
  · exact absurd hoff (h r hr).1

theorem runOnTime_of_change {now : Time} {c x : Channel} (h : ChannelChange now c x) (hc : RunOnTime now c) : RunOnTime now x := by
  cases h with
  | enable =>
    unfold enabledChannel
    split
    · exact runOnTime_of_none rfl
    · exact hc
  | disable =>
    unfold disabledChannel
    split
    · exact hc
    · exact runOnTime_of_none rfl
  | reconfigure x harmed hx =>
    unfold reconfigured
    dsimp only
    split
    · next hsame =>
      rcases hsame with hoff | ⟨hi, hf⟩
      · have hnone := run_none_of_off hc hoff
        exact runOnTime_of_none hnone
      · simpa [RunOnTime, hi, hf] using hc
    · exact runOnTime_of_none rfl
  | sampleCounts level hdue hrun =>
    intro r hr
    have hoff := sampler_ne_off_of_sampleDue hdue
    obtain ⟨rfl, hlength⟩ := brokenOrLongerRun_length hoff hrun hr
    obtain ⟨hstart, hnow⟩ := extendRun_onTime level hc hdue
    exact ⟨hoff, extendRun_length_pos _ _ _, hlength, hstart, now, rfl, hnow, by simp⟩
  | baseline level hdue => exact runOnTime_of_none rfl
  | edge level hdue => exact runOnTime_of_none rfl
  | edgeBeginsWidth level r p hdue hrun harmed hmode => exact runOnTime_of_none rfl
  | _ => exact hc

/-- R54: a run is completed by the sample that brings it to the filter count. -/
theorem completedRun_length {now : Time} {level : Bool} {c : Channel} {r : Run} (hc : RunOnTime now c)
    (hrun : completedRun now level c = some r) :
    r = extendRun now level c.run ∧ r.length - 1 = c.filterCount.toNat - 1 := by
  have hr : r = extendRun now level c.run ∧ c.filterCount.toNat ≤ r.length := by
    unfold completedRun at hrun
    dsimp only at hrun
    split at hrun
    · cases hrun
    · split at hrun
      · next h => cases hrun; exact ⟨rfl, h⟩
      · cases hrun
    · split at hrun
      · next h => cases hrun; exact ⟨rfl, h.2⟩
      · cases hrun
  obtain ⟨rfl, hle⟩ := hr
  refine ⟨rfl, ?_⟩
  revert hle
  unfold extendRun
  split
  · next r hr =>
    obtain ⟨-, -, hlt, -⟩ := hc r hr
    split <;> intro hle <;> simp only at hle ⊢ <;> omega
  · intro hle
    simp only at hle ⊢
    omega

/-- R54, R75: a measurement begins with its saturation point exactly the largest width ahead. -/
theorem saturationOf_completedRun {now : Time} {level : Bool} {c : Channel} {r : Run} (hc : RunOnTime now c)
    (hdue : sampleDue now c = true) (hrun : completedRun now level c = some r) :
    (saturationOf r.start c - now).toNat ≤ 16777215 := by
  obtain ⟨rfl, hlength⟩ := completedRun_length hc hrun
  obtain ⟨-, hnow⟩ := extendRun_onTime level hc hdue
  have hpoint : saturationOf (extendRun now level c.run).start c = now + BitVec.ofNat 32 maxWidth := by
    rw [hlength] at hnow
    rw [saturationOf, Nat.add_comm, BitVec.ofNat_add, ← BitVec.add_assoc, ← hnow]
  rw [hpoint]
  exact ahead_of_start now (by decide)

theorem saturationAhead_none {now : Time} {c : Channel} (h : c.measurement = none) : SaturationAhead now c :=
  fun m hm => by cases h.symm.trans hm

theorem saturationAhead_of_change {now : Time} {c x : Channel} (h : ChannelChange now c x) (hr : RunOnTime now c)
    (hc : SaturationAhead now c) : SaturationAhead now x := by
  cases h with
  | enable =>
    unfold enabledChannel
    split <;> exact hc
  | disable =>
    unfold disabledChannel
    split
    · exact hc
    · exact saturationAhead_none rfl
  | arm => exact saturationAhead_none rfl
  | disarm => exact saturationAhead_none rfl
  | reconfigure x harmed hx =>
    unfold reconfigured
    dsimp only
    split <;> exact hc
  | edgeBeginsWidth level r p hdue hrun harmed hmode =>
    intro m hm _
    cases hm
    exact saturationOf_completedRun hr hdue hrun
  | endWidth => exact saturationAhead_none rfl
  | saturate m hm =>
    intro m' hm' hns
    cases hm'
    cases hns
  | _ => exact hc

theorem instant_not_passed {code : Fin 4} {now last : Time} (hlast : last.toNat % intervalMicros code = 0)
    (hnow : now.toNat % intervalMicros code ≠ 0) (hle : (now - last).toNat ≤ intervalMicros code) :
    (now + 1 - last).toNat ≤ intervalMicros code := by
  fin_cases code <;> simp only [intervalMicros] at * <;> bv_omega

/-- R53: a run that is not sampled at this microsecond is not passed by the next. -/
theorem runOnTime_tick {now : Time} {c : Channel} (h : RunOnTime now c) (hdue : sampleDue now c = false) : RunOnTime (now + 1) c := by
  intro r hr
  have hlastInstant := h.start_last hr
  obtain ⟨hoff, hpos, hlt, hstart, last, htaken, rfl, hle⟩ := h r hr
  refine ⟨hoff, hpos, hlt, hstart, _, htaken, rfl, ?_⟩
  have hinstant : now.toNat % intervalMicros c.interval = 0 →
      now = r.start + BitVec.ofNat 32 ((r.length - 1) * intervalMicros c.interval) := by
    intro hnow
    symm
    simpa [sampleDue, hoff, hnow, htaken] using hdue
  by_cases hnow : now.toNat % intervalMicros c.interval = 0
  · rw [← hinstant hnow, add_sub_cancel_left_toNat]
    exact Nat.one_le_pow _ _ (by decide)
  · exact instant_not_passed hlastInstant hnow hle

/-- R53, R54, R75: what TimesAhead asks of one channel. -/
def ChannelAhead (now : Time) (c : Channel) : Prop := SaturationAhead now c ∧ RunOnTime now c

theorem channelAhead_default (now : Time) : ChannelAhead now Channel.default := ⟨saturationAhead_none rfl, runOnTime_of_none rfl⟩

theorem channelsAhead_of_change {s t : State} (h : Change A s t) (hs : ∀ i : ChannelId, ChannelAhead s.timebase (channelAt s i)) :
    ∀ i : ChannelId, ChannelAhead t.timebase (channelAt t i) := by
  cases h with
  | channel i x hx =>
    intro k
    rw [channelAt_setChannel]
    split
    · next hk =>
      subst hk
      obtain ⟨hsat, hrun⟩ := hs k
      exact ⟨saturationAhead_of_change hx hrun hsat, runOnTime_of_change hx hrun⟩
    · exact hs k
  | tick hh hd =>
    intro i
    obtain ⟨hsat, hrun⟩ := hs i
    constructor
    · intro m hm hns
      refine ahead_tick (hsat m hm hns) fun he => ?_
      have := (saturationPoint_mem_dueCommands i s).mpr ⟨m, hm, hns, he⟩
      simp [hd] at this
    · refine runOnTime_tick hrun ?_
      refine Bool.eq_false_iff.mpr fun hdue => ?_
      have := (sampleInstant_mem_dueCommands i s.inputs[i] s).mpr ⟨hdue, rfl⟩
      simp [hd] at this
  | captureReset => exact fun i => by rw [channelAt_of_default rfl]; exact channelAhead_default _
  | allReset => exact fun i => by rw [channelAt_of_default rfl]; exact channelAhead_default _
  | hold => exact fun i => by rw [channelAt_of_default rfl]; exact channelAhead_default _
  | release => exact fun i => by rw [channelAt_of_default rfl]; exact channelAhead_default _
  | _ => exact hs

theorem timesAhead_of_change {s t : State} (h : Change A s t) (hA : A) (hs : TimesAhead s) : TimesAhead t := by
  obtain ⟨htimer, hpulse, hretransmit, hsilence, hgap, hsat, hrun, htransmit, hrate, hzero⟩ := (timesAhead_iff s).mp hs
  have hchannel := channelsAhead_of_change h fun i => ⟨hsat i, hrun i⟩
  exact (timesAhead_iff t).mpr
    ⟨timersAhead_of_change h htimer, pulsesAhead_of_change h hpulse, retransmitsAhead_of_change h hretransmit,
      silenceAhead_of_change h hsilence, gapAhead_of_change h hA hgap, fun i => (hchannel i).1, fun i => (hchannel i).2,
      transmitAhead_of_change h htransmit, rateChangeRecent_of_change h hrate, heldAtZero_of_change h hzero⟩

/-- Settles O60: every elementary change keeps the times ahead, given the gap timer of the state the step begins in. -/
theorem stepKeepsTimesAhead : Obligations.StepKeepsTimesAhead := fun s _ hs h => by
  obtain ⟨-, -, -, -, hgap, -⟩ := (timesAhead_iff s).mp hs
  exact (step_reaches h).keeps (fun _ _ hc => timesAhead_of_change hc hgap) hs

end Sys2Proof.Machine
end

section
/-! SUPPORT. The Request Handler (R155 to R164): screening, the generic checks, takes, and the outcome of a request at its owner. -/

namespace Sys2Proof.Machine

open Sys2Proof

/-! ### The generic checks (R159) -/

section
variable {r : Request} {s t : State}

/-- A request that passes the generic checks reaches its owner. -/
theorem execute_of_passed (h : genericRefusal r s = none) (hl : t.link = s.link) : execute r t = ownerOf r.code r.params t := by
  unfold genericRefusal at h
  split_ifs at h with hc hp hd
  unfold execute
  rw [if_neg (by simpa using hc), if_neg (by simpa using hp), if_neg (by rw [hl]; exact hd)]

/-- A request that fails one of them is refused with its status, and changes nothing. -/
theorem execute_of_refused {status : Status} (h : genericRefusal r s = some status) (hl : t.link = s.link) :
    execute r t = refuse status t := by
  unfold genericRefusal at h
  unfold execute
  rw [hl]
  split_ifs at h with hc hp hd <;> cases h
  · rw [if_neg (by simpa using hc), if_pos (by simpa using hp)]
  · rw [if_neg (by simpa using hc), if_neg (by simpa using hp), if_pos hd]
  · rw [if_pos (by simpa using hc)]

theorem genericRefusal_none (hc : r.code ∈ requestCodes) (hp : lengthFits r.code r.params = true)
    (hd : s.link ≠ .down ∨ r.code = 0x01 ∨ r.code = 0x02) : genericRefusal r s = none := by
  unfold genericRefusal
  rw [if_neg (by simpa using hc), if_neg (by simp [hp]), if_neg (by tauto)]

end

/-! ### The outcome at the owner -/

section
variable {i : Instr} {r : Request} {s u : State}

theorem OwnerFrame.of_arrived (h : OwnerFrame (arrived r s) u) :
    OwnerFrame s { u with rx := s.rx, candidate := s.candidate, gapDue := s.gapDue, rxHeld := s.rxHeld } := by
  obtain ⟨htime, hhard, htx, hin, hno, hattn, hrq, hpq, hrate, -, -, -, hpend, -, hchange⟩ := h
  constructor <;> simp_all

/-- A request that is taken at once and accepted leaves what its owner leaves. -/
theorem exec_accepted {data : List Byte} (hi : requestOf i = some r) (ha : Acceptable r s) (hg : genericRefusal r s = none)
    (howner : ownerOf r.code r.params (executing r s) = accept (whileExecuting s u) data) (hu : OwnerFrame (arrived r s) u) :
    exec i s = acceptedWith r data s u :=
  exec_answered hi ha ((execute_of_passed hg (executing_link r s)).trans howner) hu.of_arrived

/-- One that its owner refuses changes nothing. -/
theorem exec_owner_refused {status : Status} (hi : requestOf i = some r) (ha : Acceptable r s) (hg : genericRefusal r s = none)
    (howner : ownerOf r.code r.params (executing r s) = refuse status (executing r s)) : exec i s = refusedWith r status s :=
  exec_refused hi ha ((execute_of_passed hg (executing_link r s)).trans howner)

end

/-! ### Arrival (R155) -/

/-- R175: a request frame that completes restarts the silence timer and is screened. -/
theorem deliver_request {r : Request} {s : State} (h : canComplete (requestBody r) s = true) :
    deliver (requestBody r) s = screen r (heard s) := by
  rw [deliver, if_pos h, soundFrame, restartSilence_heard]
  rfl

/-- A request that is not at the head of the queue arrives as its frame does (log 2). -/
theorem exec_requestFrame {r : Request} {s : State} (h : s.requestQueue.head? ≠ some r) :
    exec (.requestFrame r.tag r.code r.params) s = event (request r) s := by
  have hat : atHead r (selectWaiting s) = false := by simpa [atHead] using h
  show event (deliver (requestBody r)) s = event (request r) s
  rcases none_or_some s.hardReset with hh | ⟨cause, hh⟩
  · rw [event_eq _ _ hh, event_eq _ _ hh, request, if_neg (by simp [hat])]
  · rw [event_hardReset _ _ _ hh, event_hardReset _ _ _ hh]

/-- A frame that is taken at its arrival and refused by the owner of its request. -/
theorem exec_requestFrame_refused {r : Request} {s : State} {status : Status} (ha : Acceptable r s) (hq : s.requestQueue = [])
    (hg : genericRefusal r s = none) (howner : ownerOf r.code r.params (executing r s) = refuse status (executing r s)) :
    exec (.requestFrame r.tag r.code r.params) s = refusedWith r status s := by
  have hh : s.hardReset = none := ha.1
  have hex : execute r (executing r s) = refuse status (executing r s) := (execute_of_passed hg (executing_link r s)).trans howner
  rw [exec_requestFrame (by simp [hq]), event_eq _ _ hh, request_taken ha,
    settle_answer (u := arrived r s) hh hex (arrived_ownerFrame r s)]
  rfl

theorem canComplete_iff (body : List Byte) (s : State) :
    canComplete body s = true ↔ 3 ≤ body.length ∧ body.length ≤ 250 ∧ s.candidate <+: frameTail body ∧
      charactersFit (body.length + 4) s = true := by
  simp [canComplete, and_assoc]

theorem canComplete_of_hunt {body : List Byte} {s : State} (hc : s.candidate = []) (hr : s.rateChange = none) (h3 : 3 ≤ body.length)
    (h250 : body.length ≤ 250) : canComplete body s = true :=
  (canComplete_iff body s).mpr ⟨h3, h250, hc ▸ List.nil_prefix, charactersFit_none _ s hr⟩

theorem cachedReply_eq (r : Request) (s : State) :
    cachedReply r s = (s.replyCache.find? (fun e => e.request = r)).map (·.reply) := rfl

/-- R176: the discard counter stands still at its largest value. -/
theorem countDiscard_eq (s : State) :
    countDiscard s = { s with discards := if s.discards = 0xFFFF#16 then s.discards else s.discards + 1 } := rfl

/-- R155: the screening, with the reply that is found in the cache taken from its entry. -/
theorem screen_eq (r : Request) (s : State) : screen r s =
    match s.replyCache.find? (fun e => e.request = r) with
    | some e =>
      if s.replyQueue.length < 4 then { s with replyQueue := s.replyQueue ++ [{ e.reply with formed := false, rate := none }] } else s
    | none =>
      if r ∈ s.requestQueue then s
      else if s.requestQueue.length < 4 then takeHead { s with requestQueue := s.requestQueue ++ [r] }
      else { s with discards := if s.discards = 0xFFFF#16 then s.discards else s.discards + 1 } := by
  rw [screen, cachedReply_eq, countDiscard_eq]
  cases s.replyCache.find? (fun e => e.request = r) with
  | some e => rfl
  | none => by_cases hr : r ∈ s.requestQueue <;> simp [hr, Config.requestQueueSize]

/-- Settles O4: the frame completes, and the four steps of the screening follow in order. -/
theorem requestFrameIsScreened : Obligations.RequestFrameIsScreened := by
  refine ⟨canComplete_iff, fun body s => canComplete_of_hunt, ?_⟩
  intro tag code params s hh r hc w
  have hc' : canComplete (requestBody r) (selectWaiting s) = true := by simpa using hc
  have hcache : w.replyCache = s.replyCache := selectWaiting_replyCache s
  have hqueue : w.requestQueue = s.requestQueue := selectWaiting_requestQueue s
  have hdiscards : w.discards = s.discards := selectWaiting_discards s
  show event (deliver (requestBody r)) s = _
  rw [event_eq _ _ hh, deliver_request hc']
  congr 2
  rw [← hcache, ← hqueue, ← hdiscards]
  exact screen_eq r w

/-- Settles O5: the generic checks refuse before the owner is reached. -/
theorem genericChecksRefuse : Obligations.GenericChecksRefuse := by
  have hrefuse : ∀ (i : Instr) (r : Request) (status : Status) (s : State), requestOf i = some r → Acceptable r s →
      genericRefusal r s = some status → exec i s = refusedWith r status s := fun i r status s hi ha hg =>
    exec_refused hi ha (execute_of_refused hg (executing_link r s))
  refine ⟨hrefuse, fun tag code params s hc ha => hrefuse _ _ _ s ?_ ha ?_⟩
  · simp [requestOf, hc]
  · simp [genericRefusal, hc]

/-! ### Takes (R158) -/

/-- The handler goes on with the head of its queue as long as it may take. -/
theorem goOn_of_canTake {t : State} (h : canTake t = true) : goOn t = settle (takeHead t) := by
  have hlength : (selectNext (takeHead t)).requestQueue.length = t.requestQueue.length - 1 := by
    rw [selectNext_requestQueue, takeHead_requestQueue t h, List.length_tail]
  obtain ⟨hne, -, -⟩ := (canTake_iff t).mp h
  obtain ⟨n, hn⟩ : ∃ n, t.requestQueue.length = n + 1 := ⟨_, (Nat.succ_pred (by simpa using hne)).symm⟩
  rw [goOn, hn, takeWaiting, if_pos h, settle, hlength, hn]
  rfl

theorem goOn_of_not_canTake {t : State} (h : canTake t = false) : goOn t = t := takeWaiting_stop _ _ h

theorem canTake_false_iff (t : State) :
    canTake t = false ↔ t.requestQueue = [] ∨ 4 ≤ t.replyQueue.length ∨ t.pendingReset ≠ none := by
  rw [← Bool.not_eq_true, canTake_iff]
  grind

theorem goOn_cases (t : State) :
    (t.requestQueue ≠ [] → t.replyQueue.length < 4 → t.pendingReset = none → goOn t = settle (takeHead t)) ∧
      (t.requestQueue = [] ∨ 4 ≤ t.replyQueue.length ∨ t.pendingReset ≠ none → goOn t = t) :=
  ⟨fun hq hr hp => goOn_of_canTake ((canTake_iff t).mpr ⟨hq, hr, hp⟩), fun h => goOn_of_not_canTake ((canTake_false_iff t).mpr h)⟩

/-- R158: a take is the execution at the owner, the reply placed in queue and cache. -/
theorem takeHead_eq {r : Request} {rest : List Request} {s : State} (hq : s.requestQueue = r :: rest) (h : canTake s = true) :
    let a := execute r { s with requestQueue := rest }
    let reply : Reply := { tag := r.tag, code := r.code, status := a.status, data := a.data, formed := true, rate := a.rate }
    takeHead s = { a.state with
      requestQueue := rest, replyQueue := s.replyQueue ++ [reply]
      replyCache := cacheWith { request := r, reply := reply } a.state.replyCache } := by
  intro a reply
  have hframe : OwnerFrame { s with requestQueue := rest } a.state := execute_frame r _
  have hqueue : a.state.requestQueue = rest := hframe.requestQueue
  have hreplies : a.state.replyQueue = s.replyQueue := hframe.replyQueue
  have htake : takeHead s = answer r { s with requestQueue := rest } := by simp [takeHead, hq, h]
  calc takeHead s = { a.state with
        requestQueue := a.state.requestQueue, replyQueue := a.state.replyQueue ++ [reply]
        replyCache := cacheWith { request := r, reply := reply } a.state.replyCache } := htake
    _ = _ := by rw [hqueue, hreplies]

/-! ### The reply cache (R161) -/

/-- R161: with no entry of its tag the new entry joins the others, and the oldest of eight goes. -/
theorem cacheWith_of_others {e : CacheEntry} {cache others : List CacheEntry}
    (h : cache.filter (fun x => x.request.tag != e.request.tag) = others) :
    cacheWith e cache = (if others.length < 8 then others else others.drop 1) ++ [e] := by
  rw [cacheWith, h]; rfl

theorem filter_others {e : CacheEntry} {cache : List CacheEntry} (h : ∀ x ∈ cache, x.request.tag ≠ e.request.tag) :
    cache.filter (fun x => x.request.tag != e.request.tag) = cache :=
  List.filter_eq_self.mpr fun x hx => by simpa using h x hx

theorem filter_others_of_old {e old : CacheEntry} {older younger : List CacheEntry} (ht : old.request.tag = e.request.tag)
    (h : ∀ x ∈ older ++ younger, x.request.tag ≠ e.request.tag) :
    (older ++ old :: younger).filter (fun x => x.request.tag != e.request.tag) = older ++ younger := by
  rw [List.filter_append, List.filter_cons_of_neg (by simp [ht]), ← List.filter_append, filter_others h]

/-! ### Every request taken is answered -/

/-- What an execution leaves, seen from before it: the transmitter and the queues stand as they did. -/
theorem exists_whileExecuting (r : Request) (s : State) :
    ∃ u, (execute r (executing r s)).state = whileExecuting s u ∧
      OwnerFrame s { u with rx := s.rx, candidate := s.candidate, gapDue := s.gapDue, rxHeld := s.rxHeld } := by
  have hframe := execute_frame r (executing r s)
  generalize execute r (executing r s) = a at hframe
  obtain ⟨htime, hhard, htx, hin, hno, hattn, hrq, hpq, hrate, -, -, -, hpend, -, hchange⟩ := hframe
  refine ⟨{ a.state with tx := s.tx, replyQueue := s.replyQueue, notices := s.notices, requestQueue := s.requestQueue }, ?_, ?_⟩
  · rw [executing_tx] at htx
    rw [executing_replyQueue] at hpq
    rw [executing_notices] at hno
    rw [executing_requestQueue] at hrq
    simp only [whileExecuting, ← htx, ← hpq, ← hno, ← hrq]
  · constructor <;> simp_all

theorem exec_of_request {i : Instr} {r : Request} {s : State} (hi : requestOf i = some r) (ha : Acceptable r s) :
    ∃ status data rate u, exec i s = .next (goOn (replied r status data rate s u)) ∧
      (status ≠ .ok → u = arrived r s ∧ data = [] ∧ rate = none) := by
  by_cases hok : (execute r (executing r s)).status = .ok
  · obtain ⟨u, hstate, hu⟩ := exists_whileExecuting r s
    exact ⟨_, _, _, u, exec_answered hi ha (by rw [← hstate]) hu, fun hne => absurd hok hne⟩
  · exact ⟨_, _, _, arrived r s, exec_refused hi ha (execute_refused r _ hok), fun _ => ⟨rfl, rfl, rfl⟩⟩

/-- Settles O6: takes, replies and the cache, clause by clause. -/
theorem everyTakenRequestIsAnswered : Obligations.EveryTakenRequestIsAnswered := by
  refine ⟨fun i r s => exec_of_request, fun s => goOn_cases (selectNext s), fun r rest s hq => ⟨fun hr hp => ?_, fun h => ?_⟩,
    fun e cache h => ⟨fun hlt => ?_, fun oldest younger hcons hfull => ?_⟩, fun e old older younger ht h hlt => ?_, goOn_cases⟩
  · exact takeHead_eq hq ((canTake_iff s).mpr ⟨by simp [hq], hr, hp⟩)
  · have hno := (canTake_false_iff s).mpr (.inr h)
    rcases takeHead_cases s with ⟨hyes, -⟩ | ⟨-, hs⟩
    · rw [hno] at hyes; cases hyes
    · exact hs
  · rw [cacheWith_of_others (filter_others h), if_pos hlt]
  · rw [cacheWith_of_others (filter_others h), if_neg (by omega), hcons]
    rfl
  · rw [cacheWith_of_others (filter_others_of_old ht h), if_pos (by simpa using hlt)]

/-! ### A pending reset (R158, R164) -/

theorem canTake_of_pendingReset {s : State} (h : s.pendingReset ≠ none) : canTake s = false := (canTake_false_iff s).mpr (.inr (.inr h))

theorem takeHead_of_not_canTake {s : State} (h : canTake s = false) : takeHead s = s := by
  rcases takeHead_cases s with ⟨hyes, -⟩ | ⟨-, hs⟩
  · rw [h] at hyes; cases hyes
  · exact hs

theorem settle_requestQueue_of_pendingReset {s : State} (h : s.pendingReset ≠ none) : (settle s).requestQueue = s.requestQueue := by
  rw [settle_stop s (canTake_of_pendingReset (by simpa using h)), selectNext_requestQueue]

/-- R155: a request that is no repeat joins a queue with room. -/
theorem screen_joins {r : Request} {s : State} (hcache : ∀ e ∈ s.replyCache, e.request ≠ r) (hnot : r ∉ s.requestQueue)
    (hroom : s.requestQueue.length < 4) : screen r s = takeHead { s with requestQueue := s.requestQueue ++ [r] } := by
  have hc : cachedReply r s = none := by
    rw [cachedReply_eq, Option.map_eq_none_iff, List.find?_eq_none]
    simpa using hcache
  simp [screen, hc, hnot, Config.requestQueueSize, hroom]

/-- Settles O7: with a reset pending the handler may not take, so a request only joins the queue. -/
theorem noRequestIsTakenWhileResetPends : Obligations.NoRequestIsTakenWhileResetPends := by
  intro i r s hi hh
  refine ⟨fun hp hhead => ⟨?_, ?_⟩, fun hp hc hcache hnot hroom => ?_, fun hhead => ?_⟩
  · have hat : atHead r (selectWaiting s) = true := by simpa [atHead] using hhead
    rw [exec_request hi, event_eq _ _ hh, request, if_pos hat, takeHead_of_not_canTake (canTake_of_pendingReset (by simpa using hp))]
  · rw [settle_requestQueue_of_pendingReset (by simpa using hp), selectWaiting_requestQueue]
  · have hat : atHead r (selectWaiting s) = false := by
      rw [atHead, selectWaiting_requestQueue, beq_eq_false_iff_ne]
      exact fun hhead => hnot (List.mem_of_mem_head? hhead)
    have hqueue : (heard (selectWaiting s)).requestQueue = s.requestQueue := selectWaiting_requestQueue s
    rw [exec_request hi, event_eq _ _ hh, request, if_neg (by simp [hat]), deliver_request (by simpa using hc),
      screen_joins (by simpa [heard] using hcache) (by rwa [hqueue]) (by rwa [hqueue]), hqueue,
      takeHead_of_not_canTake (canTake_of_pendingReset (by simpa [heard] using hp))]
  · rw [exec_request hi, exec_requestFrame hhead]

end Sys2Proof.Machine
end

section
/-! SUPPORT. The requests of the link (R136 to R140, R144, R148, R153): what each owner leaves, and the outcome of its request. -/

namespace Sys2Proof.Machine

open Sys2Proof

/-! ### HELLO (R137, R138) -/

/-- R137: the session opened on a state whose session, link, classes, outputs and silence limit are those of `s`. -/
theorem ownerHello_executing (r : Request) (s : State) :
    ownerHello (executing r s) = accept (whileExecuting s { arrived r s with
      session := nextSession s.session, link := .up
      classes := s.classes.map (fun c => { withFrameReturned c with nextSeq := 0 })
      silenceDue := if s.silenceLimit = 0 then none else some (s.timebase + BitVec.ofNat 32 (s.silenceLimit.toNat * 100000))
      replyCache := [], outputs := unlocked s }) (helloData (nextSession s.session)) := by
  rw [executing_eq]
  obtain ⟨_, _, _, _, _, h⟩ := arrived_frame r s
  rw [h]; rfl

/-- Settles O8: HELLO is refused in no link state. -/
theorem helloOpensASession : Obligations.HelloOpensASession := by
  intro tag s ha
  exact exec_accepted rfl ha (genericRefusal_none (by simp [helloRequest, requestCodes]) rfl (.inr (.inl rfl)))
    (ownerHello_executing _ s) (by constructor <;> rfl)

/-! ### RESET (R148) -/

theorem ownerReset_executing {scope : Byte} {x : Scope} (hx : scopeOf scope = some x) (r : Request) (s : State) :
    ownerReset scope (executing r s) = accept (whileExecuting s { arrived r s with pendingReset := some x }) [] := by
  simp only [ownerReset, hx, executing_eq]
  rfl

theorem scopeOf_none {b : Byte} (h : 3 ≤ b.toNat) : scopeOf b = none := by
  have h0 : b ≠ 0 := by rintro rfl; exact absurd h (by decide)
  have h1 : b ≠ 1 := by rintro rfl; exact absurd h (by decide)
  have h2 : b ≠ 2 := by rintro rfl; exact absurd h (by decide)
  simp only [scopeOf, h0, h1, h2, if_false]

/-- Settles O9: RESET sets its scope as the pending reset. -/
theorem resetOnlySetsThePendingReset : Obligations.ResetOnlySetsThePendingReset := by
  intro tag scope s ha accepted
  have hg : genericRefusal (resetRequest tag scope) s = none :=
    genericRefusal_none (by simp [resetRequest, requestCodes]) rfl (.inr (.inr rfl))
  have hset : ∀ x, scopeOf scope = some x → exec (.reset tag scope) s = accepted x := fun x hx =>
    exec_accepted rfl ha hg (ownerReset_executing hx _ s) (by constructor <;> rfl)
  refine ⟨fun h => hset _ (by rw [h]; rfl), fun h => hset _ (by rw [h]; rfl), fun h => hset _ (by rw [h]; rfl), fun h => ?_⟩
  refine exec_owner_refused rfl ha hg ?_
  show ownerReset scope _ = _
  rw [ownerReset, scopeOf_none h]

/-! ### LINK_CFG (R49, R144, R172) -/

theorem linkConfigured_executing (timeout retryLimit silenceLimit : Byte) (r : Request) (s : State) :
    linkConfigured timeout retryLimit silenceLimit (executing r s) =
      whileExecuting s { arrived r s with
        retransmitTimeout := timeout, retryLimit := retryLimit, silenceLimit := silenceLimit
        silenceDue :=
          if s.link ≠ .up then (arrived r s).silenceDue
          else if silenceLimit = 0 then none
          else some (s.timebase + BitVec.ofNat 32 (silenceLimit.toNat * 100000)) } := by
  rw [executing_eq]
  obtain ⟨_, _, _, _, _, h⟩ := arrived_frame r s
  rw [h]; rfl

/-- Settles O10: the values in range are set, and others refused. -/
theorem linkCfgSetsTheLink : Obligations.LinkCfgSetsTheLink := by
  intro tag rate timeout retryLimit silenceLimit s r ha hd
  have hg : genericRefusal r s = none := genericRefusal_none (by simp [r, linkCfgRequest, requestCodes]) rfl (.inl hd)
  have howner : ownerOf r.code r.params (executing r s) = ownerLinkCfg rate timeout retryLimit silenceLimit (executing r s) := rfl
  constructor
  · rintro code rfl ht hr
    refine exec_answered rfl ha ?_ (OwnerFrame.of_arrived (by constructor <;> rfl))
    rw [execute_of_passed hg (executing_link r s), howner,
      ownerLinkCfg_eq_accept (indexOf_byteOf 8 (by decide) code) (not_or.mpr ⟨ht, by omega⟩), linkConfigured_executing]
    rfl
  · intro hbad
    refine exec_owner_refused rfl ha hg (howner.trans ?_)
    unfold ownerLinkCfg
    split
    · rfl
    · next hi =>
      have hv : timeout = 0 ∨ 15 < retryLimit.toNat := by
        rcases hbad with h8 | h
        · rw [indexOf_none 8 rate h8] at hi; cases hi
        · exact h
      rw [if_pos hv]

/-! ### LINK_READ (R153, R183) -/

/-- R33: the replies that wait once the arbiter has selected. -/
theorem selectWaiting_replyQueue {s : State} (hh : s.hardReset = none) : (selectWaiting s).replyQueue = waitingReplies s := by
  unfold waitingReplies
  rcases selectWaiting_cases s with ⟨h, hno⟩ | ⟨ht, -, r, rest, hq, h⟩ | ⟨ht, -, hq, n, rest, -, h⟩
  · rcases hno with ht | hr | ⟨hq, -⟩
    · rw [h, if_neg (by simpa using ht)]
    · exact absurd hh hr
    · simp [h, hq]
  · simp [h, ht, hq, startSending]
  · simp [h, ht, hq, startSending]

/-- R153: LINK_READ sees the queue behind it and the replies that still wait. -/
theorem linkData_executing {s : State} (hh : s.hardReset = none) (r : Request) :
    linkData (executing r s) =
      [linkByte s.link, s.session, wakeByte s.link, flagByte s.attn, byteOf s.rate.val, s.retransmitTimeout, s.retryLimit,
        s.silenceLimit, byteOf s.requestQueue.tail.length, byteOf (waitingReplies s).length] ++ bytes16 s.discards := by
  simp [linkData, selectWaiting_replyQueue hh]

/-- R153, R183: the bytes LINK_READ encodes its values in. -/
theorem link_encodings :
    linkByte .up = 1 ∧ (∀ w, linkByte (.quiet w) = 2) ∧ linkByte .stalled = 3 ∧ (∀ c : Cls, wakeByte (.quiet (some c)) = byteOf c.val) ∧
      wakeByte (.quiet none) = 0xFF ∧ wakeByte .up = 0xFF ∧ wakeByte .stalled = 0xFF ∧ flagByte false = 0 ∧ flagByte true = 1 :=
  ⟨rfl, fun _ => rfl, rfl, fun _ => rfl, rfl, rfl, rfl, rfl, rfl⟩

/-- Settles O11: LINK_READ by its clear value. -/
theorem linkReadReturnsTheLink : Obligations.LinkReadReturnsTheLink := by
  refine ⟨link_encodings, ?_⟩
  intro tag clear s ha hd r data
  have hg : genericRefusal r s = none := genericRefusal_none (by simp [r, linkReadRequest, requestCodes]) rfl (.inl hd)
  have hdata : linkData (executing r s) = data := linkData_executing ha.1 r
  refine ⟨?_, ?_, fun hc => ?_⟩
  · rintro rfl
    refine exec_accepted rfl ha hg ?_ (OwnerFrame.refl _)
    show accept (executing r s) (linkData (executing r s)) = _
    rw [hdata]; rfl
  · rintro rfl
    refine exec_accepted rfl ha hg ?_ (by constructor <;> rfl)
    show accept { executing r s with discards := 0 } (linkData (executing r s)) = _
    rw [hdata]; rfl
  · refine exec_owner_refused rfl ha hg ?_
    show ownerLinkRead clear _ = _
    rw [ownerLinkRead, flagOf_none clear hc]

/-! ### QUIET (R139) -/

/-- R45: a frame that is held, the class else left as it is. -/
theorem holdFrame_eq (c : ClassState) : holdFrame c = { c with frame := c.frame.map (fun f =>
    match f.state with
    | .waiting _ => { f with state := .held }
    | _ => f) } := by
  rcases holdFrame_cases c with ⟨f, d, hf, hw, h⟩ | ⟨h, hnot⟩ <;> rw [h]
  · simp [hf, hw]
  · cases hf : c.frame with
    | none => rw [Option.map_none, ← hf]
    | some f =>
      have hsame : (match f.state with | .waiting _ => { f with state := .held } | _ => f) = f := by
        split
        · next d hd => exact absurd hd (hnot f d hf)
        · rfl
      rw [Option.map_some, hsame, ← hf]

theorem unholdFrame_eq (due : Time) (c : ClassState) : unholdFrame due c = { c with frame := c.frame.map (fun f =>
    match f.state with
    | .held => { f with state := .waiting due }
    | _ => f) } := by
  rcases unholdFrame_cases due c with ⟨f, hf, hw, h⟩ | ⟨h, hnot⟩ <;> rw [h]
  · simp [hf, hw]
  · cases hf : c.frame with
    | none => rw [Option.map_none, ← hf]
    | some f =>
      have hsame : (match f.state with | .held => { f with state := .waiting due } | _ => f) = f := by
        split
        · next hd => exact absurd hd (hnot f hf)
        · rfl
      rw [Option.map_some, hsame, ← hf]

theorem wakeOf_byteOf (c : Cls) : wakeOf (byteOf c.val) = some (some c) := by revert c; decide

theorem wakeOf_none {b : Byte} (h4 : 4 ≤ b.toNat) (hff : b ≠ 0xFF) : wakeOf b = none := by
  rw [wakeOf, if_neg hff, indexOf_none 4 b h4]; rfl

theorem wakeOf_some {b : Byte} (h : b.toNat < 4 ∨ b = 0xFF) : ∃ w, wakeOf b = some w := by
  rcases h with h | rfl
  · refine ⟨some ⟨b.toNat, h⟩, ?_⟩
    have hff : b ≠ 0xFF := by rintro rfl; exact absurd h (by decide)
    rw [wakeOf, if_neg hff, indexOf, dif_pos h]; rfl
  · exact ⟨none, rfl⟩

theorem ownerQuiet_executing {wake : Byte} {w : Option Cls} {s : State} (hw : wakeOf wake = some w) (hl : s.link = .up) (r : Request) :
    ownerQuiet wake (executing r s) = accept (whileExecuting s { arrived r s with
      link := .quiet w, silenceDue := none
      classes := s.classes.map (fun c => { c with frame := c.frame.map (fun f =>
        match f.state with
        | .waiting _ => { f with state := .held }
        | _ => f) }) }) [] := by
  simp only [ownerQuiet, hw, executing_link, hl, if_true, executing_classes, ← holdFrame_eq]
  rfl

/-- Settles O12: RANGE before STATE, and in UP the frames are held. -/
theorem quietHoldsDelivery : Obligations.QuietHoldsDelivery := by
  intro tag wake s ha hd r quiet
  have hg : genericRefusal r s = none := genericRefusal_none (by simp [r, quietRequest, requestCodes]) rfl (.inl hd)
  have haccept : ∀ w, s.link = .up → wakeOf wake = some w → exec (.quiet tag wake) s = quiet w := fun w hl hw =>
    exec_accepted rfl ha hg (ownerQuiet_executing hw hl r) (by constructor <;> rfl)
  refine ⟨fun hl => ⟨fun c hc => haccept _ hl (by rw [hc, wakeOf_byteOf]), fun hff => haccept _ hl (by rw [hff]; rfl)⟩,
    fun h4 hff => exec_owner_refused rfl ha hg ?_, fun hin hl => exec_owner_refused rfl ha hg ?_⟩
  · show ownerQuiet wake _ = _
    rw [ownerQuiet, wakeOf_none h4 hff]
  · show ownerQuiet wake _ = _
    obtain ⟨w, hw⟩ := wakeOf_some hin
    simp only [ownerQuiet, hw, executing_link, if_neg hl]

/-! ### RESUME (R140) -/

theorem ownerResume_quiet {w : Option Cls} {s : State} (hl : s.link = .quiet w) (r : Request) :
    ownerResume (executing r s) = accept (whileExecuting s { arrived r s with
      link := .up
      silenceDue := if s.silenceLimit = 0 then none else some (s.timebase + BitVec.ofNat 32 (s.silenceLimit.toNat * 100000))
      classes := s.classes.map (fun c => { c with frame := c.frame.map (fun f =>
        match f.state with
        | .held => { f with state := .waiting (s.timebase + BitVec.ofNat 32 (s.retransmitTimeout.toNat * 1000)) }
        | _ => f) }) }) [] := by
  rw [executing_eq]
  obtain ⟨_, _, _, _, _, h⟩ := arrived_frame r s
  simp only [h, ownerResume, whileExecuting, hl, ← unholdFrame_eq]
  rfl

theorem ownerResume_stalled {s : State} (hl : s.link = .stalled) (r : Request) :
    ownerResume (executing r s) = accept (whileExecuting s { arrived r s with
      link := .up
      silenceDue := if s.silenceLimit = 0 then none else some (s.timebase + BitVec.ofNat 32 (s.silenceLimit.toNat * 100000))
      outputs := unlocked s }) [] := by
  rw [executing_eq]
  obtain ⟨_, _, _, _, _, h⟩ := arrived_frame r s
  simp only [h, ownerResume, whileExecuting, hl]
  rfl

/-- Settles O13: RESUME by the link state it meets. -/
theorem resumeReturnsToUp : Obligations.ResumeReturnsToUp := by
  intro tag s ha r silence
  have hg : s.link ≠ .down → genericRefusal r s = none := fun hd =>
    genericRefusal_none (by simp [r, resumeRequest, requestCodes]) rfl (.inl hd)
  refine ⟨fun w hl => ?_, fun hl => ?_, fun hl => ?_⟩
  · exact exec_accepted rfl ha (hg (by simp [hl])) (ownerResume_quiet hl r) (by constructor <;> rfl)
  · exact exec_accepted rfl ha (hg (by simp [hl])) (ownerResume_stalled hl r) (by constructor <;> rfl)
  · refine exec_owner_refused rfl ha (hg (by simp [hl])) ?_
    show ownerResume _ = _
    simp only [ownerResume, executing_link, hl]

end Sys2Proof.Machine
end

section
/-! SUPPORT. The requests that read, and those of the channels, the class queues and the timers (R22, R23, R59 to R65, R71, R96, R97, R131):
what each owner leaves, and the outcome of its request. -/

namespace Sys2Proof.Machine

open Sys2Proof

/-! ### Requests that read -/

section
variable {i : Instr} {r : Request} {s : State}

/-- A request that only reads leaves what its arrival leaves. -/
theorem exec_read {data : List Byte} (hi : requestOf i = some r) (ha : Acceptable r s) (hg : genericRefusal r s = none)
    (howner : ownerOf r.code r.params (executing r s) = accept (executing r s) data) :
    exec i s = acceptedWith r data s (arrived r s) :=
  exec_accepted hi ha hg howner (OwnerFrame.refl _)

end

/-- The encodings of R183 for what the requests read. -/
theorem read_encodings :
    samplerBytes .off = [0, 0xFF] ∧ samplerBytes .settling = [1, 0xFF] ∧ samplerBytes (.stable false) = [2, 0] ∧
      samplerBytes (.stable true) = [2, 1] ∧ [none, some false, some true].map flagOrAbsent = [0xFF, 0, 1] ∧
      [CaptureMode.edge .rise, .edge .fall, .edge .both, .width .high, .width .low, .count .rise, .count .fall, .count .both].map
          captureModeBytes = [[0, 0], [0, 1], [0, 2], [1, 0], [1, 1], [2, 0], [2, 1], [2, 2]] ∧
      measurementBytes none = [0, 0, 0, 0, 0] ∧
      (∀ m : Measurement, measurementBytes (some m) = (if m.saturated then 2 else 1) :: bytes32 m.lead) ∧
      timerModeByte .oneshot = 0 ∧ timerModeByte .periodic = 1 ∧ policyByte .hold = 0 ∧ policyByte .drive = 1 :=
  ⟨rfl, rfl, rfl, rfl, rfl, rfl, by decide, fun _ => rfl, rfl, rfl, rfl, rfl⟩

section
variable {tag b : Byte} {s : State}

theorem exec_timeRead (hd : s.link ≠ .down) (ha : Acceptable (timeReadRequest tag) s) :
    exec (.timeRead tag) s = acceptedWith (timeReadRequest tag)
      (bytes32 s.timebase ++ [byteOf (classAt s 0).unsent.length, byteOf (classAt s 1).unsent.length,
        byteOf (classAt s 2).unsent.length, byteOf (classAt s 3).unsent.length, byteOf (128 - storedCount s)])
      s (arrived (timeReadRequest tag) s) := by
  refine exec_read rfl ha (genericRefusal_none (by simp [timeReadRequest, requestCodes]) rfl (.inl hd)) ?_
  show ownerTimeRead _ = _
  simp only [ownerTimeRead, executing_timebase, classAt_executing, freeCount_executing]
  rfl

theorem exec_chanRead (hd : s.link ≠ .down) {i : ChannelId} (ha : Acceptable (chanReadRequest tag (byteOf i.val)) s) :
    exec (.chanRead tag (byteOf i.val)) s = acceptedWith (chanReadRequest tag (byteOf i.val)) (channelData (channelAt s i)) s
      (arrived (chanReadRequest tag (byteOf i.val)) s) := by
  refine exec_read rfl ha (genericRefusal_none (by simp [chanReadRequest, requestCodes]) rfl (.inl hd)) ?_
  show ownerChanRead _ _ = _
  simp only [ownerChanRead, indexOf_byteOf 16 (by decide), channelAt_executing]

theorem exec_chanRead_range (hd : s.link ≠ .down) (ha : Acceptable (chanReadRequest tag b) s) (hb : 16 ≤ b.toNat) :
    exec (.chanRead tag b) s = refusedWith (chanReadRequest tag b) .range s := by
  refine exec_owner_refused rfl ha (genericRefusal_none (by simp [chanReadRequest, requestCodes]) rfl (.inl hd)) ?_
  show ownerChanRead _ _ = _
  rw [ownerChanRead, indexOf_none 16 b hb]

theorem exec_classRead (hd : s.link ≠ .down) {c : Cls} (ha : Acceptable (classReadRequest tag (byteOf c.val)) s) :
    exec (.classRead tag (byteOf c.val)) s = acceptedWith (classReadRequest tag (byteOf c.val)) (classData s (classAt s c)) s
      (arrived (classReadRequest tag (byteOf c.val)) s) := by
  refine exec_read rfl ha (genericRefusal_none (by simp [classReadRequest, requestCodes]) rfl (.inl hd)) ?_
  show ownerClassRead _ _ = _
  simp only [ownerClassRead, indexOf_byteOf 4 (by decide), classAt_executing, classData, freeCount_executing, executing_reserve]

theorem exec_classRead_range (hd : s.link ≠ .down) (ha : Acceptable (classReadRequest tag b) s) (hb : 4 ≤ b.toNat) :
    exec (.classRead tag b) s = refusedWith (classReadRequest tag b) .range s := by
  refine exec_owner_refused rfl ha (genericRefusal_none (by simp [classReadRequest, requestCodes]) rfl (.inl hd)) ?_
  show ownerClassRead _ _ = _
  rw [ownerClassRead, indexOf_none 4 b hb]

theorem exec_timerRead (hd : s.link ≠ .down) {t : TimerId} (ha : Acceptable (timerReadRequest tag (byteOf t.val)) s) :
    exec (.timerRead tag (byteOf t.val)) s = acceptedWith (timerReadRequest tag (byteOf t.val))
      (timerData s.timebase (timerAt s t)) s (arrived (timerReadRequest tag (byteOf t.val)) s) := by
  refine exec_read rfl ha (genericRefusal_none (by simp [timerReadRequest, requestCodes]) rfl (.inl hd)) ?_
  show ownerTimerRead _ _ = _
  simp only [ownerTimerRead, indexOf_byteOf 4 (by decide), timerAt_executing, executing_timebase]

theorem exec_timerRead_range (hd : s.link ≠ .down) (ha : Acceptable (timerReadRequest tag b) s) (hb : 4 ≤ b.toNat) :
    exec (.timerRead tag b) s = refusedWith (timerReadRequest tag b) .range s := by
  refine exec_owner_refused rfl ha (genericRefusal_none (by simp [timerReadRequest, requestCodes]) rfl (.inl hd)) ?_
  show ownerTimerRead _ _ = _
  rw [ownerTimerRead, indexOf_none 4 b hb]

theorem exec_outRead (hd : s.link ≠ .down) (ha : Acceptable (outReadRequest tag) s) :
    exec (.outRead tag) s = acceptedWith (outReadRequest tag)
      (allLines.map (fun l => outputData s.timebase (outputAt s l))).flatten s (arrived (outReadRequest tag) s) := by
  refine exec_read rfl ha (genericRefusal_none (by simp [outReadRequest, requestCodes]) rfl (.inl hd)) ?_
  show ownerOutRead _ = _
  simp only [ownerOutRead, executing_timebase, outputAt_executing]

end

theorem allLines_eq : allLines = [0, 1, 2, 3, 4, 5, 6, 7] := by decide

/-- Settles O14: each read by its own lemma, its data as the owner encodes them. -/
theorem readsReturnPresentValues : Obligations.ReadsReturnPresentValues := by
  refine ⟨read_encodings, fun tag s hd => ⟨exec_timeRead hd, fun b ha => ⟨?_, exec_chanRead_range hd ha⟩,
    fun b ha => ⟨?_, exec_classRead_range hd ha⟩, fun b ha => ⟨?_, exec_timerRead_range hd ha⟩, fun ha => ?_⟩⟩
  · rintro i rfl
    exact exec_chanRead hd ha
  · rintro c rfl
    exact exec_classRead hd ha
  · rintro t rfl
    exact exec_timerRead hd ha
  · rw [exec_outRead hd ha, allLines_eq]
    rfl

/-! ### CHAN_CFG (R62, R63) -/

theorem captureModeOf_of_bytes {m : CaptureMode} {mode select : Byte} (h : captureModeBytes m = [mode, select]) :
    captureModeOf mode select = some m := by
  cases m with
  | edge e => cases e <;> cases h <;> rfl
  | width p => cases p <;> cases h <;> rfl
  | count e => cases e <;> cases h <;> rfl

theorem eq_of_toNat {b : Byte} {n : Nat} (h : b.toNat = n) : b = byteOf n := by
  subst h; simp [byteOf]

theorem bytes_of_captureModeOf {m : CaptureMode} {mode select : Byte} (h : captureModeOf mode select = some m) :
    captureModeBytes m = [mode, select] := by
  unfold captureModeOf at h
  split at h
  all_goals first
    | cases h; done
    | next hm hs => cases h; rw [eq_of_toNat hm, eq_of_toNat hs]; rfl

/-- R62, check 2: the bytes of the settings pass, and read back. -/
theorem channelSettings_of_bytes {m : CaptureMode} {mode select filterCount : Byte} {threshold : Word16} (iv : Fin 4) (rep : Bool) (k : Cls)
    (hm : captureModeBytes m = [mode, select]) (h1 : 1 ≤ filterCount.toNat) (h15 : filterCount.toNat ≤ 15) (ht : threshold ≠ 0) :
    channelSettings mode select (byteOf iv.val) filterCount (flagByte rep) (byteOf k.val) threshold =
      some { mode := m, interval := iv, filterCount := filterCount, report := rep, cls := k, threshold := threshold } := by
  have hf : filterCount ≠ 0 := by rintro rfl; exact absurd h1 (by decide)
  have hv : ¬ (filterCount = 0 ∨ 15 < filterCount.toNat ∨ threshold = 0) := by
    rintro (h | h | h)
    · exact hf h
    · omega
    · exact ht h
  simp only [channelSettings, captureModeOf_of_bytes hm, indexOf_byteOf 4 (by decide), flagOf_flagByte, if_neg hv]

/-- R62, check 2: any one value out of range fails it. -/
theorem channelSettings_none {mode select interval filterCount report cls : Byte} {threshold : Word16}
    (h : (∀ m, captureModeBytes m ≠ [mode, select]) ∨ 4 ≤ interval.toNat ∨ filterCount = 0 ∨ 15 < filterCount.toNat ∨
      2 ≤ report.toNat ∨ 4 ≤ cls.toNat ∨ threshold = 0) :
    channelSettings mode select interval filterCount report cls threshold = none := by
  unfold channelSettings
  split
  · next m i r c hm hi hr hc =>
    rcases h with h | h | h | h | h | h | h
    · exact absurd (bytes_of_captureModeOf hm) (h m)
    · rw [indexOf_none 4 interval h] at hi; cases hi
    · exact if_pos (.inl h)
    · exact if_pos (.inr (.inl h))
    · rw [flagOf_none report h] at hr; cases hr
    · rw [indexOf_none 4 cls h] at hc; cases hc
    · exact if_pos (.inr (.inr h))
  · rfl

/-- R63: the seven settings, and SETTLING again when interval or filter count of a sampling channel changed. -/
theorem reconfigured_eq (now : Time) (y : ChannelSettings) (c : Channel) :
    reconfigured now y c =
      let restart : Bool := c.sampler != .off && (y.interval != c.interval || y.filterCount != c.filterCount)
      { c with
        mode := y.mode, interval := y.interval, filterCount := y.filterCount, report := y.report, cls := y.cls, threshold := y.threshold
        sampler := if restart then .settling else c.sampler
        run := if restart then none else c.run
        instantTaken := if restart then some now else c.instantTaken } := by
  unfold reconfigured
  by_cases h : c.sampler = .off ∨ (y.interval = c.interval ∧ y.filterCount = c.filterCount)
  · have hno : (c.sampler != .off && (y.interval != c.interval || y.filterCount != c.filterCount)) = false := by
      simp only [Bool.and_eq_false_iff, Bool.or_eq_false_iff, bne_eq_false_iff_eq]
      exact h
    simp [h, hno]
  · have hyes : (c.sampler != .off && (y.interval != c.interval || y.filterCount != c.filterCount)) = true := by
      rw [← Bool.not_eq_false]
      simp only [Bool.and_eq_false_iff, Bool.or_eq_false_iff, bne_eq_false_iff_eq]
      exact h
    simp [h, hyes]

theorem setChannel_arrived_frame (i : ChannelId) (x : Channel) (r : Request) (s : State) :
    OwnerFrame (arrived r s) (setChannel i x (arrived r s)) := by constructor <;> rfl

theorem ownerOf_chanCfg (tag channel mode select interval filterCount report cls : Byte) (threshold : Word16) (t : State) :
    let r := chanCfgRequest tag channel mode select interval filterCount report cls threshold
    ownerOf r.code r.params t = ownerChanCfg channel mode select interval filterCount report cls threshold t := by
  intro r
  conv_rhs => rw [← join16_bytes16 threshold]
  rfl

/-- Settles O15: RANGE, then ACTIVE, and else the settings. -/
theorem chanCfgSetsTheChannel : Obligations.ChanCfgSetsTheChannel := by
  intro tag channel mode select interval filterCount report cls threshold s r c ha hd
  have hg : genericRefusal r s = none := genericRefusal_none (by simp [r, chanCfgRequest, requestCodes]) rfl (.inl hd)
  have howner := ownerOf_chanCfg tag channel mode select interval filterCount report cls threshold (executing r s)
  constructor
  · rintro i m iv rep k rfl hm rfl h1 h15 rfl rfl ht x restart
    have hset := channelSettings_of_bytes iv rep k hm h1 h15 ht
    refine ⟨fun harmed => ?_, fun harmed => ?_⟩
    · have hexec : exec c s = acceptedWith r [] s (setChannel i (reconfigured s.timebase
          { mode := m, interval := iv, filterCount := filterCount, report := rep, cls := k, threshold := threshold } x) (arrived r s)) := by
        refine exec_accepted rfl ha hg (howner.trans ?_) (setChannel_arrived_frame _ _ _ _)
        simp only [ownerChanCfg, indexOf_byteOf 16 (by decide), hset, channelAt_executing, executing_timebase]
        rw [if_neg (by simpa [x] using harmed)]
        rfl
      rw [reconfigured_eq] at hexec
      simpa only [setChannel, arrived_channels] using hexec
    · refine exec_owner_refused rfl ha hg (howner.trans ?_)
      simp only [ownerChanCfg, indexOf_byteOf 16 (by decide), hset, channelAt_executing]
      rw [if_pos harmed]
  · intro hbad
    refine exec_owner_refused rfl ha hg (howner.trans ?_)
    unfold ownerChanCfg
    split
    · next hi hx =>
      rcases hbad with h | h
      · rw [indexOf_none 16 channel h] at hi; cases hi
      · rw [channelSettings_none h] at hx; cases hx
    · rfl

/-! ### CHAN_CTL (R59 to R61, R64) -/

/-- R64: an operation over the mask acts on the channels alone, wherever the transmitter and the queues stand. -/
theorem overChannels_executing (mask : Word16) {f : ChannelId → State → State} {g : Channel → Channel} (r : Request) {s : State}
    (hf : ∀ (u : State) (k : ChannelId) (x : Vector Channel 16), u.timebase = s.timebase →
      f k { u with channels := x } = { u with channels := x.set k (g x[k]) }) :
    overChannels mask f (executing r s) = whileExecuting s { arrived r s with
      channels := Vector.ofFn (fun i => if mask.getLsbD i.val then g (channelAt s i) else channelAt s i) } := by
  rw [overChannels, foldChannels_eq (fun i => mask.getLsbD i.val) f g _ fun k x => hf _ k x (executing_timebase r s)]
  simp only [channelAt_executing]
  rfl

theorem enabledChannel_eq (now : Time) (c : Channel) : enabledChannel now c =
    if c.sampler = .off then { c with sampler := .settling, run := none, lastSample := none, instantTaken := some now } else c := by
  unfold enabledChannel
  split
  · next h => rw [if_pos h]
  · next h => rw [if_neg h]

theorem disabledChannel_eq (c : Channel) : disabledChannel c =
    if c.sampler = .off then c
    else { c with sampler := .off, run := none, lastSample := none, armed := false, measurement := none } := by
  unfold disabledChannel
  split
  · next h => rw [if_pos h]
  · next h => rw [if_neg h]; rfl

/-- R60, R61: an operation that leaves some channels as they are, as one update of the channel. -/
theorem armChannel_eq (i : ChannelId) (s : State) :
    armChannel i s = setChannel i (if (channelAt s i).sampler = .off then channelAt s i else armedChannel (channelAt s i)) s := by
  unfold armChannel
  split
  · show s = { s with channels := s.channels.set i s.channels[i] }
    rw [set_self]
  · rfl

theorem disarmChannel_eq (i : ChannelId) (s : State) :
    disarmChannel i s = setChannel i (if (channelAt s i).armed then disarmedChannel (channelAt s i) else channelAt s i) s := by
  unfold disarmChannel
  split
  · rfl
  · show s = { s with channels := s.channels.set i s.channels[i] }
    rw [set_self]

theorem namesOffChannel_iff (mask : Word16) (s : State) :
    namesOffChannel mask s = true ↔ ∃ i : ChannelId, mask.getLsbD i.val = true ∧ (channelAt s i).sampler = .off := by
  simp [namesOffChannel, allChannels]

theorem ownerOf_chanCtl (tag : Byte) (mask : Word16) (op : Byte) (t : State) :
    ownerOf (chanCtlRequest tag mask op).code (chanCtlRequest tag mask op).params t = ownerChanCtl mask op t := by
  conv_rhs => rw [← join16_bytes16 mask]
  rfl

theorem ownerChanCtl_range {mask : Word16} {op : Byte} (h : 5 ≤ op.toNat) (t : State) : ownerChanCtl mask op t = refuse .range t := by
  unfold ownerChanCtl
  split <;> first | omega | rfl

section
variable {i : Instr} {tag op : Byte} {mask : Word16} {f : ChannelId → State → State} {g : Channel → Channel} {s : State}

theorem genericRefusal_chanCtl (tag : Byte) (mask : Word16) (op : Byte) (hd : s.link ≠ .down) :
    genericRefusal (chanCtlRequest tag mask op) s = none :=
  genericRefusal_none (by simp [chanCtlRequest, requestCodes]) rfl (.inl hd)

/-- R64: an operation of CHAN_CTL that is accepted acts on the channels of the mask as one update. -/
theorem exec_chanCtl (hd : s.link ≠ .down) (hi : requestOf i = some (chanCtlRequest tag mask op))
    (howner : ∀ t, t.channels = s.channels → ownerChanCtl mask op t = accept (overChannels mask f t) [])
    (hf : ∀ (u : State) (k : ChannelId) (x : Vector Channel 16), u.timebase = s.timebase →
      f k { u with channels := x } = { u with channels := x.set k (g x[k]) }) (ha : Acceptable (chanCtlRequest tag mask op) s) :
    exec i s = acceptedWith (chanCtlRequest tag mask op) [] s { arrived (chanCtlRequest tag mask op) s with
      channels := Vector.ofFn (fun i => if mask.getLsbD i.val then g (channelAt s i) else channelAt s i) } := by
  refine exec_accepted hi ha (genericRefusal_chanCtl tag mask op hd) ?_ (by constructor <;> rfl)
  rw [ownerOf_chanCtl, howner _ (executing_channels _ s), overChannels_executing mask _ hf]

theorem exec_chanCtlArm_disabled (hd : s.link ≠ .down) (ha : Acceptable (chanCtlRequest tag mask 2) s)
    (hoff : ∃ i : ChannelId, mask.getLsbD i.val = true ∧ (channelAt s i).sampler = .off) :
    exec (.chanCtlArm tag mask) s = refusedWith (chanCtlRequest tag mask 2) .disabled s := by
  refine exec_owner_refused rfl ha (genericRefusal_chanCtl tag mask 2 hd) ?_
  have hnames : namesOffChannel mask (executing (chanCtlRequest tag mask 2) s) = true := by
    simpa only [namesOffChannel_iff, channelAt_executing] using hoff
  rw [ownerOf_chanCtl, ownerChanCtl]
  exact if_pos hnames

theorem exec_chanCtlArm_accepted (hd : s.link ≠ .down) (ha : Acceptable (chanCtlRequest tag mask 2) s)
    (hoff : ¬ ∃ i : ChannelId, mask.getLsbD i.val = true ∧ (channelAt s i).sampler = .off) :
    exec (.chanCtlArm tag mask) s = acceptedWith (chanCtlRequest tag mask 2) [] s { arrived (chanCtlRequest tag mask 2) s with
      channels := Vector.ofFn (fun i => if mask.getLsbD i.val then armedChannel (channelAt s i) else channelAt s i) } := by
  have hsame : (Vector.ofFn fun i : ChannelId => if mask.getLsbD i.val then
        (if (channelAt s i).sampler = .off then channelAt s i else armedChannel (channelAt s i)) else channelAt s i) =
      Vector.ofFn fun i : ChannelId => if mask.getLsbD i.val then armedChannel (channelAt s i) else channelAt s i := by
    congr 1
    funext i
    split
    · next hm => rw [if_neg fun ho => hoff ⟨i, hm, ho⟩]
    · rfl
  rw [← hsame]
  refine exec_chanCtl (f := armChannel) (g := fun c => if c.sampler = .off then c else armedChannel c) hd rfl (fun t ht => ?_)
    (fun u k x _ => armChannel_eq k _) ha
  have hnames : ¬ namesOffChannel mask t = true := by
    simpa only [namesOffChannel_iff, channelAt, ht] using hoff
  rw [ownerChanCtl]
  exact if_neg hnames

end

/-- Settles O16: each operation over the mask as one update of the channels. -/
theorem chanCtlActsOnTheMask : Obligations.ChanCtlActsOnTheMask := by
  intro tag mask s hd onMask off
  refine ⟨?_, ?_, exec_chanCtlArm_disabled hd, exec_chanCtlArm_accepted hd, ?_, ?_, ?_⟩
  · have henable := exec_chanCtl (i := .chanCtlEnable tag mask) (op := 0) (f := enableChannel) (g := enabledChannel s.timebase) hd rfl
      (fun _ _ => rfl) fun u k x hu => by rw [← hu]; rfl
    simpa only [enabledChannel_eq] using henable
  · have hdisable := exec_chanCtl (i := .chanCtlDisable tag mask) (op := 1) (f := disableChannel) (g := disabledChannel) hd rfl
      (fun _ _ => rfl) fun u k x _ => rfl
    simpa only [disabledChannel_eq] using hdisable
  · exact exec_chanCtl (i := .chanCtlDisarm tag mask) (op := 3) (f := disarmChannel)
      (g := fun c => if c.armed then disarmedChannel c else c) hd rfl (fun _ _ => rfl) fun u k x _ => disarmChannel_eq k _
  · exact exec_chanCtl (i := .chanCtlClearSeen tag mask) (op := 4) (f := clearSeen) (g := unseenChannel) hd rfl (fun _ _ => rfl)
      fun u k x _ => rfl
  · intro op hop r ha hq
    refine exec_requestFrame_refused ha hq (genericRefusal_chanCtl tag mask op hd) ?_
    rw [ownerOf_chanCtl, ownerChanCtl_range hop]

/-! ### FLUSH (R23) -/

/-- Settles O18: the class is emptied, and its counts returned. -/
theorem flushEmptiesTheClass : Obligations.FlushEmptiesTheClass := by
  intro tag cls s ha hd r
  have hg : genericRefusal r s = none := genericRefusal_none (by simp [r, flushRequest, requestCodes]) rfl (.inl hd)
  have howner : ownerOf r.code r.params (executing r s) = ownerFlush cls (executing r s) := rfl
  constructor
  · rintro c rfl x
    have hexec : exec (.flush tag (byteOf c.val)) s = acceptedWith r (byteOf (occupancy x) :: bytes16 x.lostPending) s
        (setClass c (emptyClass x) (arrived r s)) := by
      refine exec_accepted rfl ha hg (howner.trans ?_) (by constructor <;> rfl)
      simp only [ownerFlush, indexOf_byteOf 4 (by decide), classAt_executing]
      rfl
    simpa only [setClass, arrived_classes, occupancy, emptyClass] using hexec
  · intro hc
    refine exec_owner_refused rfl ha hg (howner.trans ?_)
    rw [ownerFlush, indexOf_none 4 cls hc]

/-! ### TIMER_CTL (R89, R90, R96) -/

section
variable {i : Instr} {tag mask op : Byte} {f : TimerId → State → State} {g : Timer → Timer} {s : State}

theorem genericRefusal_timerCtl (tag mask op : Byte) (hd : s.link ≠ .down) :
    genericRefusal (timerCtlRequest tag mask op) s = none :=
  genericRefusal_none (by simp [timerCtlRequest, requestCodes]) rfl (.inl hd)

theorem overTimers_executing (mask : Byte) (r : Request)
    (hf : ∀ (u : State) (k : TimerId) (x : Vector Timer 4), u.timebase = s.timebase →
      f k { u with timers := x } = { u with timers := x.set k (g x[k]) }) :
    overTimers mask f (executing r s) = whileExecuting s { arrived r s with
      timers := Vector.ofFn (fun t => if mask.getLsbD t.val then g (timerAt s t) else timerAt s t) } := by
  rw [overTimers, foldTimers_eq (fun t => mask.getLsbD t.val) f g _ fun k x => hf _ k x (executing_timebase r s)]
  simp only [timerAt_executing]
  rfl

/-- R96: an operation of TIMER_CTL that is accepted acts on the timers of the mask as one update. -/
theorem exec_timerCtl (hd : s.link ≠ .down) (hi : requestOf i = some (timerCtlRequest tag mask op))
    (howner : ∀ t, ownerTimerCtl mask op t = accept (overTimers mask f t) [])
    (hf : ∀ (u : State) (k : TimerId) (x : Vector Timer 4), u.timebase = s.timebase →
      f k { u with timers := x } = { u with timers := x.set k (g x[k]) }) (ha : Acceptable (timerCtlRequest tag mask op) s) :
    exec i s = acceptedWith (timerCtlRequest tag mask op) [] s { arrived (timerCtlRequest tag mask op) s with
      timers := Vector.ofFn (fun t => if mask.getLsbD t.val then g (timerAt s t) else timerAt s t) } := by
  refine exec_accepted hi ha (genericRefusal_timerCtl tag mask op hd) ?_ (by constructor <;> rfl)
  show ownerTimerCtl mask op _ = _
  rw [howner, overTimers_executing mask _ hf]

theorem ownerTimerCtl_start {mask : Byte} (h : mask.toNat < 16) (t : State) :
    ownerTimerCtl mask 0 t = accept (overTimers mask startTimer t) [] := by
  simp [ownerTimerCtl, show ¬ 16 ≤ mask.toNat by omega]

theorem ownerTimerCtl_stop {mask : Byte} (h : mask.toNat < 16) (t : State) :
    ownerTimerCtl mask 1 t = accept (overTimers mask stopTimer t) [] := by
  simp [ownerTimerCtl, show ¬ 16 ≤ mask.toNat by omega]

theorem ownerTimerCtl_range {mask op : Byte} (h : 2 ≤ op.toNat ∨ 16 ≤ mask.toNat) (t : State) :
    ownerTimerCtl mask op t = refuse .range t := by
  rw [ownerTimerCtl, if_pos (by simpa using h)]

theorem exec_timerCtl_range (hd : s.link ≠ .down) (hi : requestOf i = some (timerCtlRequest tag mask op)) (hm : 16 ≤ mask.toNat)
    (ha : Acceptable (timerCtlRequest tag mask op) s) : exec i s = refusedWith (timerCtlRequest tag mask op) .range s :=
  exec_owner_refused hi ha (genericRefusal_timerCtl tag mask op hd) (ownerTimerCtl_range (.inr hm) _)

end

/-- Settles O20: each operation over the mask as one update of the timers. -/
theorem timerCtlStartsAndStops : Obligations.TimerCtlStartsAndStops := by
  intro tag mask s hd onMask
  refine ⟨fun ha => ⟨fun hm => ?_, fun hm => exec_timerCtl_range hd rfl hm ha⟩,
    fun ha => ⟨fun hm => ?_, fun hm => exec_timerCtl_range hd rfl hm ha⟩, ?_⟩
  · exact exec_timerCtl (i := .timerCtlStart tag mask) (op := 0) (f := startTimer) (g := startedTimer s.timebase) hd rfl
      (ownerTimerCtl_start hm) (fun u k x hu => by rw [← hu]; rfl) ha
  · exact exec_timerCtl (i := .timerCtlStop tag mask) (op := 1) (f := stopTimer) (g := stoppedTimer) hd rfl
      (ownerTimerCtl_stop hm) (fun u k x _ => rfl) ha
  · intro op hop r ha hq
    exact exec_requestFrame_refused ha hq (genericRefusal_timerCtl tag mask op hd) (ownerTimerCtl_range (.inl hop) _)

end Sys2Proof.Machine
end

section
/-! SUPPORT. Layouts (R104, R117, R129, R180, R182, R183): actions, entries and OUT_WRITE operations read back from their bytes, and the
length every request carries. -/

namespace Sys2Proof.Machine

open Sys2Proof

/-! ### Single bytes -/

theorem indexOf_eq_none_iff (n : Nat) (b : Byte) : indexOf n b = none ↔ n ≤ b.toNat := by
  simp [indexOf]

theorem flagOf_some {b : Byte} {v : Bool} (h : flagOf b = some v) : b = flagByte v := by
  unfold flagOf at h
  split_ifs at h with h0 h1 <;> cases h
  · exact h0
  · exact h1

theorem flagOf_eq_none_iff (b : Byte) : flagOf b = none ↔ 2 ≤ b.toNat := by
  refine ⟨fun h => ?_, flagOf_none b⟩
  by_contra hb
  have : b = 0 ∨ b = 1 := by bv_omega
  rcases this with rfl | rfl <;> cases h

/-! ### Lists of operations and actions -/

theorem outOpsOf_eq_some_iff (l : List OutOpBytes) (ops : List OutOp) : outOpsOf l = some ops ↔ l.map outOpOf = ops.map some := by
  induction l generalizing ops with
  | nil => cases ops <;> simp [outOpsOf]
  | cons b rest ih =>
    cases ops with
    | nil => cases hb : outOpOf b <;> cases hr : outOpsOf rest <;> simp [outOpsOf, hb, hr]
    | cons op ops =>
      rw [List.map_cons, List.map_cons, List.cons.injEq, ← ih]
      cases hb : outOpOf b <;> cases hr : outOpsOf rest <;> simp [outOpsOf, hb, hr]

theorem outOpsOf_eq_none_iff (l : List OutOpBytes) : outOpsOf l = none ↔ ∃ b ∈ l, outOpOf b = none := by
  induction l with
  | nil => simp [outOpsOf]
  | cons b rest ih =>
    rw [List.exists_mem_cons_iff, ← ih]
    cases hb : outOpOf b <;> cases hr : outOpsOf rest <;> simp [outOpsOf, hb, hr]

theorem actionsOf_eq_some_iff (l : List ActionBytes) (as : List LoadedAction) :
    actionsOf l = some as ↔ l.map loadedActionOf = as.map some := by
  induction l generalizing as with
  | nil => cases as <;> simp [actionsOf]
  | cons b rest ih =>
    cases as with
    | nil => cases hb : loadedActionOf b <;> cases hr : actionsOf rest <;> simp [actionsOf, hb, hr]
    | cons a as =>
      rw [List.map_cons, List.map_cons, List.cons.injEq, ← ih]
      cases hb : loadedActionOf b <;> cases hr : actionsOf rest <;> simp [actionsOf, hb, hr]

theorem actionsOf_eq_none_iff (l : List ActionBytes) : actionsOf l = none ↔ ∃ b ∈ l, loadedActionOf b = none := by
  induction l with
  | nil => simp [actionsOf]
  | cons b rest ih =>
    rw [List.exists_mem_cons_iff, ← ih]
    cases hb : loadedActionOf b <;> cases hr : actionsOf rest <;> simp [actionsOf, hb, hr]

/-! ### One action -/

/-- R104: an action is read back from its kind and the operands it uses. -/
theorem actionOf_of_used {a : Action} {k b1 b2 b3 b4 b5 : Byte} (hd : ∀ l v d, a = .out (.pulse l v d) → d ≠ 0)
    (h : actionUsedBytes a <+: [k, b1, b2, b3, b4, b5]) :
    actionOf { kind := k, o1 := b1, o2 := b2, o3 := b3, o4 := b4, o5 := b5 } = some a := by
  cases a with
  | out op =>
    cases op with
    | set l v =>
      simp [actionUsedBytes] at h
      obtain ⟨rfl, rfl, rfl⟩ := h
      simp [actionOf, indexOf_byteOf, flagOf_flagByte]
    | toggle l =>
      simp [actionUsedBytes] at h
      obtain ⟨rfl, rfl⟩ := h
      simp [actionOf, indexOf_byteOf]
    | pulse l v d =>
      simp [actionUsedBytes, bytes24] at h
      obtain ⟨rfl, rfl, rfl, rfl, rfl, rfl⟩ := h
      simpa [actionOf, indexOf_byteOf, flagOf_flagByte, join24_bytes24] using hd l v d rfl
  | timerStart t =>
    simp [actionUsedBytes] at h
    obtain ⟨rfl, rfl⟩ := h
    simp [actionOf, indexOf_byteOf]
  | timerStop t =>
    simp [actionUsedBytes] at h
    obtain ⟨rfl, rfl⟩ := h
    simp [actionOf, indexOf_byteOf]
  | chanArm c =>
    simp [actionUsedBytes] at h
    obtain ⟨rfl, rfl⟩ := h
    simp [actionOf, indexOf_byteOf]
  | chanDisarm c =>
    simp [actionUsedBytes] at h
    obtain ⟨rfl, rfl⟩ := h
    simp [actionOf, indexOf_byteOf]
  | reactArm j =>
    simp [actionUsedBytes] at h
    obtain ⟨rfl, rfl⟩ := h
    simp [actionOf, indexOf_byteOf]
  | reactDisarm j =>
    simp [actionUsedBytes] at h
    obtain ⟨rfl, rfl⟩ := h
    simp [actionOf, indexOf_byteOf]
  | post c tag =>
    simp [actionUsedBytes] at h
    obtain ⟨rfl, rfl, rfl⟩ := h
    simp [actionOf, indexOf_byteOf]

/-- R182: an operand that names an index stands second, after the kind. -/
theorem used_of_indexed {n : Nat} {make : Fin n → Action} {b : ActionBytes} {a : Action} {kind : Nat} (hk : b.kind.toNat = kind)
    (h : (indexOf n b.o1).map make = some a) (hused : ∀ i, actionUsedBytes (make i) = [byteOf kind, byteOf i.val]) :
    actionUsedBytes a <+: actionParamBytes b := by
  obtain ⟨i, hi, rfl⟩ := Option.map_eq_some_iff.mp h
  rw [hused, actionParamBytes, eq_of_toNat hk, (indexOf_some hi).2]
  simp

/-- R182: the bytes an action was read from begin with those it uses. -/
theorem used_of_actionOf {b : ActionBytes} {a : Action} (h : actionOf b = some a) : actionUsedBytes a <+: actionParamBytes b := by
  unfold actionOf at h
  split at h
  · next hk =>
    split at h
    · next hl hv =>
      cases h
      rw [actionParamBytes, eq_of_toNat hk, (indexOf_some hl).2, flagOf_some hv]
      simp [actionUsedBytes, byteOf]
    · cases h
  · next hk => exact used_of_indexed hk h fun i => rfl
  · next hk =>
    split at h
    · next hl hv =>
      split at h
      · cases h
      · cases h
        rw [actionParamBytes, eq_of_toNat hk, (indexOf_some hl).2, flagOf_some hv]
        simp [actionUsedBytes, byteOf, bytes24_join24]
    · cases h
  · next hk => exact used_of_indexed hk h fun i => rfl
  · next hk => exact used_of_indexed hk h fun i => rfl
  · next hk => exact used_of_indexed hk h fun i => rfl
  · next hk => exact used_of_indexed hk h fun i => rfl
  · next hk => exact used_of_indexed hk h fun i => rfl
  · next hk => exact used_of_indexed hk h fun i => rfl
  · next hk =>
    obtain ⟨i, hi, rfl⟩ := Option.map_eq_some_iff.mp h
    rw [actionParamBytes, eq_of_toNat hk, (indexOf_some hi).2]
    simp [actionUsedBytes, byteOf]
  · cases h

/-- R182: the range of an action, its kind as a number. -/
theorem actionInRange_iff (b : ActionBytes) : ActionInRange b ↔
    (b.kind.toNat = 1 ∧ b.o1.toNat < 8 ∧ b.o2.toNat < 2) ∨ (b.kind.toNat = 2 ∧ b.o1.toNat < 8) ∨
      (b.kind.toNat = 3 ∧ b.o1.toNat < 8 ∧ b.o2.toNat < 2 ∧ join24 b.o3 b.o4 b.o5 ≠ 0) ∨
      ((b.kind.toNat = 4 ∨ b.kind.toNat = 5) ∧ b.o1.toNat < 4) ∨ (6 ≤ b.kind.toNat ∧ b.kind.toNat ≤ 9 ∧ b.o1.toNat < 16) ∨
      (b.kind.toNat = 10 ∧ b.o1.toNat < 4) := by
  simp only [ActionInRange, show b.kind = 1 ↔ b.kind.toNat = 1 from BitVec.toNat_eq,
    show b.kind = 2 ↔ b.kind.toNat = 2 from BitVec.toNat_eq, show b.kind = 3 ↔ b.kind.toNat = 3 from BitVec.toNat_eq,
    show b.kind = 4 ↔ b.kind.toNat = 4 from BitVec.toNat_eq, show b.kind = 5 ↔ b.kind.toNat = 5 from BitVec.toNat_eq,
    show b.kind = 10 ↔ b.kind.toNat = 10 from BitVec.toNat_eq]

theorem lt_iff_indexOf (n : Nat) (b : Byte) : b.toNat < n ↔ indexOf n b ≠ none := by
  rw [ne_eq, indexOf_eq_none_iff, Nat.not_le]

theorem lt_two_iff_flagOf (b : Byte) : b.toNat < 2 ↔ flagOf b ≠ none := by
  rw [ne_eq, flagOf_eq_none_iff, Nat.not_le]

/-- R104, R182: an action is refused exactly when its kind, or an operand it uses, is out of range. -/
theorem actionOf_eq_none_iff (b : ActionBytes) : actionOf b = none ↔ ¬ ActionInRange b := by
  rw [actionInRange_iff, lt_iff_indexOf 8, lt_iff_indexOf 4, lt_iff_indexOf 16, lt_two_iff_flagOf]
  unfold actionOf
  split
  · next hk => simp only [hk]; cases indexOf 8 b.o1 <;> cases flagOf b.o2 <;> simp
  · next hk => simp [hk]
  · next hk =>
    simp only [hk]
    cases indexOf 8 b.o1 <;> cases flagOf b.o2 <;> by_cases hz : join24 b.o3 b.o4 b.o5 = 0 <;> simp [hz]
  · next hk => simp [hk]
  · next hk => simp [hk]
  · next hk => simp [hk]
  · next hk => simp [hk]
  · next hk => simp [hk]
  · next hk => simp [hk]
  · next hk => simp [hk]
  · next h1 h2 h3 h4 h5 h6 h7 h8 h9 h10 =>
    refine iff_of_true rfl ?_
    rintro (⟨hk, -⟩ | ⟨hk, -⟩ | ⟨hk, -⟩ | ⟨hk | hk, -⟩ | ⟨h6', h9', -⟩ | ⟨hk, -⟩)
    · exact h1 hk
    · exact h2 hk
    · exact h3 hk
    · exact h4 hk
    · exact h5 hk
    · have hk : b.kind.toNat = 6 ∨ b.kind.toNat = 7 ∨ b.kind.toNat = 8 ∨ b.kind.toNat = 9 := by omega
      rcases hk with hk | hk | hk | hk
      exacts [h6 hk, h7 hk, h8 hk, h9 hk]
    · exact h10 hk

theorem loadedActionOf_eq_none_iff (b : ActionBytes) : loadedActionOf b = none ↔ ¬ ActionInRange b := by
  rw [loadedActionOf, Option.map_eq_none_iff, actionOf_eq_none_iff]

/-- Log 8: the bytes an action uses and those it does not are the six it was loaded in. -/
theorem used_append_unused {b : ActionBytes} {l : LoadedAction} (h : loadedActionOf b = some l) :
    actionUsedBytes l.action ++ l.unused = [b.kind, b.o1, b.o2, b.o3, b.o4, b.o5] := by
  obtain ⟨a, ha, rfl⟩ := Option.map_eq_some_iff.mp h
  exact List.prefix_iff_eq_append.mp (used_of_actionOf ha)

/-! ### One OUT_WRITE operation -/

theorem outOpOf_of_bytes (l : LineId) (v : Bool) (level : Byte) (d : Word24) :
    outOpOf { line := byteOf l.val, kind := 0, level := flagByte v, duration := d } = some (.set l v) ∧
      outOpOf { line := byteOf l.val, kind := 1, level := level, duration := d } = some (.toggle l) ∧
      (d ≠ 0 → outOpOf { line := byteOf l.val, kind := 2, level := flagByte v, duration := d } = some (.pulse l v d)) := by
  refine ⟨?_, ?_, fun hd => ?_⟩
  · simp [outOpOf, indexOf_byteOf, flagOf_flagByte]
  · simp [outOpOf, indexOf_byteOf]
  · have hd' : ¬ d = 0 := hd
    simp only [outOpOf, indexOf_byteOf 8 (by decide), flagOf_flagByte, if_neg hd']
    rfl

/-- R129, R182: an operation is refused exactly when its kind, or an operand it uses, is out of range. -/
theorem outOpOf_eq_none_iff (b : OutOpBytes) : outOpOf b = none ↔ ¬ OutOpInRange b := by
  rw [OutOpInRange, lt_iff_indexOf 8, lt_two_iff_flagOf]
  unfold outOpOf
  cases indexOf 8 b.line with
  | none => simp
  | some l =>
    by_cases h0 : b.kind = 0
    · simp [h0]
    · by_cases h1 : b.kind = 1
      · simp [h1]
      · by_cases h2 : b.kind = 2
        · by_cases hd : b.duration = 0 <;> simp_all
        · simp_all

/-! ### The contents of an entry -/

theorem sourceOf_of_bytes {source : TriggerSource} {kind index : Byte} (h : sourceBytes source = [kind, index]) :
    sourceOf kind index = some source := by
  cases source <;> cases h <;> simp [sourceOf, indexOf_byteOf]

theorem qualifierOf_of_byte {source : TriggerSource} {q : Qualifier} (h : ∀ t, source = .timer t → q = .any) :
    qualifierOf source (qualifierByte q) = some q := by
  cases source with
  | channel i => cases q <;> rfl
  | timer t => rw [h t rfl]; rfl

/-- R117: the contents of an entry are read back from their bytes. -/
theorem contentsOf_of_bytes {c : EntryContents} {kind index : Byte} {actions : List ActionBytes}
    (hs : sourceBytes c.source = [kind, index]) (hq : ∀ t, c.source = .timer t → c.qualifier = .any)
    (ha : actions.map loadedActionOf = c.actions.map some) :
    contentsOf kind index (qualifierByte c.qualifier) c.width c.fireLimit (byteOf c.doneClass.val) (flagByte c.reportDone) actions =
      some c := by
  simp only [contentsOf, sourceOf_of_bytes hs, indexOf_byteOf 4 (by decide), flagOf_flagByte, (actionsOf_eq_some_iff _ _).mpr ha,
    qualifierOf_of_byte hq]
  rfl

theorem sourceOf_eq_none_iff (kind index : Byte) :
    sourceOf kind index = none ↔ 2 ≤ kind.toNat ∨ (kind = 0 ∧ 16 ≤ index.toNat) ∨ (kind = 1 ∧ 4 ≤ index.toNat) := by
  unfold sourceOf
  split_ifs with h0 h1
  · simp [h0, indexOf_eq_none_iff]
  · simp [h1, indexOf_eq_none_iff]
  · have : 2 ≤ kind.toNat := by
      rw [← flagOf_eq_none_iff, flagOf, if_neg h0, if_neg h1]
    simp [this]

theorem qualifierOf_channel_eq_none_iff (i : ChannelId) (b : Byte) : qualifierOf (.channel i) b = none ↔ 5 ≤ b.toNat := by
  unfold qualifierOf
  split <;> simp_all
  omega

theorem qualifierOf_timer_eq_none_iff (t : TimerId) (b : Byte) : qualifierOf (.timer t) b = none ↔ b ≠ 0 := by
  rw [show b ≠ 0 ↔ b.toNat ≠ 0 from not_congr BitVec.toNat_eq]
  unfold qualifierOf
  split <;> simp_all

theorem sourceOf_some {kind index : Byte} {source : TriggerSource} (h : sourceOf kind index = some source) :
    (kind = 0 ∧ ∃ i, source = .channel i) ∨ (kind = 1 ∧ ∃ t, source = .timer t) := by
  unfold sourceOf at h
  split_ifs at h with h0 h1
  · obtain ⟨i, -, rfl⟩ := Option.map_eq_some_iff.mp h
    exact .inl ⟨h0, i, rfl⟩
  · obtain ⟨t, -, rfl⟩ := Option.map_eq_some_iff.mp h
    exact .inr ⟨h1, t, rfl⟩

/-- R117: the contents of an entry are refused exactly when one of their values is. -/
theorem contentsOf_eq_none_iff (kind index qualifier : Byte) (width : Word24) (fireLimit doneClass reportDone : Byte)
    (actions : List ActionBytes) :
    contentsOf kind index qualifier width fireLimit doneClass reportDone actions = none ↔
      2 ≤ kind.toNat ∨ (kind = 0 ∧ 16 ≤ index.toNat) ∨ (kind = 1 ∧ 4 ≤ index.toNat) ∨ 5 ≤ qualifier.toNat ∨
        (kind = 1 ∧ qualifier ≠ 0) ∨ 4 ≤ doneClass.toNat ∨ 2 ≤ reportDone.toNat ∨ ∃ b ∈ actions, ¬ ActionInRange b := by
  have hactions : (∃ b ∈ actions, ¬ ActionInRange b) ↔ actionsOf actions = none := by
    simp only [actionsOf_eq_none_iff, loadedActionOf_eq_none_iff]
  have hsource := sourceOf_eq_none_iff kind index
  rw [hactions, ← indexOf_eq_none_iff 4 doneClass, ← flagOf_eq_none_iff reportDone]
  unfold contentsOf
  split
  · next source c r as hs hc hr ha =>
    have hin : ¬ (2 ≤ kind.toNat ∨ (kind = 0 ∧ 16 ≤ index.toNat) ∨ (kind = 1 ∧ 4 ≤ index.toNat)) := by
      rw [← hsource, hs]; simp
    have hqualifier : qualifierOf source qualifier = none ↔ 5 ≤ qualifier.toNat ∨ (kind = 1 ∧ qualifier ≠ 0) := by
      rcases sourceOf_some hs with ⟨rfl, i, rfl⟩ | ⟨rfl, t, rfl⟩
      · rw [qualifierOf_channel_eq_none_iff]
        exact ⟨.inl, fun h => h.resolve_right fun h1 => absurd h1.1 (by decide)⟩
      · rw [qualifierOf_timer_eq_none_iff]
        refine ⟨fun h => .inr ⟨rfl, h⟩, fun h => h.elim (fun h5 => ?_) (·.2)⟩
        rintro rfl
        exact absurd h5 (by decide)
    simp only [not_or] at hin
    obtain ⟨hk, hk0, hk1⟩ := hin
    rw [Option.map_eq_none_iff, hqualifier, hc, hr, ha]
    simp only [hk, hk0, hk1, false_or, reduceCtorEq, or_false]
  · next hno =>
    refine iff_of_true rfl ?_
    by_contra hall
    simp only [not_or] at hall
    obtain ⟨hs1, hs2, hs3, -, -, hc, hr, ha⟩ := hall
    have hs : sourceOf kind index ≠ none := by
      rw [ne_eq, hsource]
      exact not_or.mpr ⟨hs1, not_or.mpr ⟨hs2, hs3⟩⟩
    obtain ⟨source, hs⟩ := Option.ne_none_iff_exists'.mp hs
    obtain ⟨c, hc⟩ := Option.ne_none_iff_exists'.mp hc
    obtain ⟨r, hr⟩ := Option.ne_none_iff_exists'.mp hr
    obtain ⟨as, ha⟩ := Option.ne_none_iff_exists'.mp ha
    exact hno source c r as hs hc hr ha

/-- Settles O27: each layout by its lemma. -/
theorem entryLayoutReadsBack : Obligations.EntryLayoutReadsBack := by
  refine ⟨fun a k b1 b2 b3 b4 b5 hd h => ?_, fun b l => used_append_unused, loadedActionOf_eq_none_iff, outOpOf_of_bytes,
    outOpOf_eq_none_iff, fun c kind index actions => contentsOf_of_bytes, contentsOf_eq_none_iff, fun l v d t k j c tag => ?_, rfl⟩
  · rw [loadedActionOf, actionOf_of_used hd h]; rfl
  · exact ⟨rfl, rfl, rfl, rfl, rfl, rfl, rfl, rfl, rfl, rfl, rfl, rfl, rfl, rfl, rfl⟩

end Sys2Proof.Machine
end

section
/-! SUPPORT. The length of every request (R159, R180, R182). -/

namespace Sys2Proof.Machine

open Sys2Proof

/-! ### The LENGTH check -/

/-- R182: a counted list of six-byte groups behind `before` bytes, the last of which is its count. -/
def CountedFrom (before most : Nat) (params : List Byte) : Prop :=
  ∃ count, params[before]? = some count ∧ 1 ≤ count.toNat ∧ count.toNat ≤ most ∧ params.length = before + 1 + 6 * count.toNat

theorem countAgrees_iff (count : Byte) (bytes most : Nat) :
    countAgrees count bytes most = true ↔ 1 ≤ count.toNat ∧ count.toNat ≤ most ∧ bytes = 6 * count.toNat := by
  simp [countAgrees, and_assoc]

theorem lengthFits_outWrite (params : List Byte) : lengthFits 0x30 params = true ↔ CountedFrom 0 8 params := by
  match params with
  | [] => simp [lengthFits, CountedFrom]
  | n :: rest =>
    show countAgrees n rest.length 8 = true ↔ _
    rw [countAgrees_iff]
    simp only [CountedFrom, List.getElem?_cons_zero, Option.some.injEq, exists_eq_left', List.length_cons]
    omega

theorem lengthFits_reactLoad (params : List Byte) : lengthFits 0x28 params = true ↔ CountedFrom 10 4 params := by
  match params with
  | a :: b :: c :: d :: e :: f :: g :: h :: i :: j :: n :: rest =>
    show countAgrees n rest.length 4 = true ↔ _
    rw [countAgrees_iff]
    simp only [CountedFrom, List.getElem?_cons_succ, List.getElem?_cons_zero, Option.some.injEq, exists_eq_left', List.length_cons]
    omega
  | [] | [_] | [_, _] | [_, _, _] | [_, _, _, _] | [_, _, _, _, _] | [_, _, _, _, _, _] | [_, _, _, _, _, _, _]
  | [_, _, _, _, _, _, _, _] | [_, _, _, _, _, _, _, _, _] | [_, _, _, _, _, _, _, _, _, _] =>
    exact iff_of_false (by simp [lengthFits]) (by simp [CountedFrom])

theorem lengthFits_unknown {code : Byte} (params : List Byte) (h : code ∉ requestCodes) : lengthFits code params = false := by
  unfold lengthFits
  split
  case h_23 => rfl
  all_goals
    next hc =>
    rw [eq_of_toNat hc] at h
    exact absurd (by decide) h

/-- R159, check 2: the lengths of the table. -/
theorem lengthFits_iff (code : Byte) (params : List Byte) : lengthFits code params = true ↔
    (code ∈ ([0x01, 0x06, 0x07, 0x32] : List Byte) ∧ params.length = 0) ∨
    (code ∈ ([0x02, 0x04, 0x05, 0x12, 0x19, 0x1A, 0x22, 0x2A] : List Byte) ∧ params.length = 1) ∨
    (code = 0x21 ∧ params.length = 2) ∨ (code ∈ ([0x11, 0x29, 0x31] : List Byte) ∧ params.length = 3) ∨
    (code = 0x03 ∧ params.length = 4) ∨ (code = 0x18 ∧ params.length = 6) ∨ (code = 0x20 ∧ params.length = 7) ∨
    (code = 0x10 ∧ params.length = 9) ∨ (code = 0x28 ∧ CountedFrom 10 4 params) ∨ (code = 0x30 ∧ CountedFrom 0 8 params) := by
  by_cases hc : code ∈ requestCodes
  · by_cases h28 : code = 0x28
    · subst h28; rw [lengthFits_reactLoad]; simp
    · by_cases h30 : code = 0x30
      · subst h30; rw [lengthFits_outWrite]; simp
      · simp only [requestCodes, List.mem_cons, List.not_mem_nil, or_false, h28, h30, false_or] at hc
        rcases hc with rfl | rfl | rfl | rfl | rfl | rfl | rfl | rfl | rfl | rfl | rfl | rfl | rfl | rfl | rfl | rfl | rfl | rfl | rfl |
          rfl <;> simp [lengthFits]
  · rw [lengthFits_unknown params hc]
    refine iff_of_false (by decide) fun h => hc ?_
    simp only [requestCodes, List.mem_cons, List.not_mem_nil, or_false] at h ⊢
    tauto

/-- R182: the count of a list of at most eight, as the request carries it. -/
theorem byteOf_toNat {n : Nat} (h : n < 256) : (byteOf n).toNat = n := by
  simp [byteOf, Nat.mod_eq_of_lt h]

theorem lengthFits_outWriteRequest {tag : Byte} {ops : List OutOpBytes} (h1 : 1 ≤ ops.length) (h8 : ops.length ≤ 8) :
    lengthFits 0x30 (outWriteRequest tag ops).params = true := by
  rw [lengthFits_outWrite]
  refine ⟨byteOf ops.length, rfl, ?_⟩
  rw [byteOf_toNat (by omega), outWriteRequest, List.length_cons, Sys2Proof.Laws.outOpBytes_length]
  omega

theorem lengthFits_reactLoadRequest {tag entry kind index qualifier : Byte} {width : Word24} {fireLimit doneClass reportDone : Byte}
    {actions : List ActionBytes} (h1 : 1 ≤ actions.length) (h4 : actions.length ≤ 4) :
    lengthFits 0x28 (reactLoadRequest tag entry kind index qualifier width fireLimit doneClass reportDone actions).params = true := by
  rw [lengthFits_reactLoad]
  refine ⟨byteOf actions.length, rfl, ?_⟩
  rw [byteOf_toNat (by omega)]
  refine ⟨h1, h4, ?_⟩
  simp only [reactLoadRequest, List.length_append, Sys2Proof.Laws.actionParamBytes_length, bytes24_length, List.length_cons,
    List.length_nil]

/-- R182: a well-formed row carries the length its code requires. -/
theorem lengthFits_of_wellFormed {i : Instr} {r : Request} (hw : i.wellFormed = true) (hi : requestOf i = some r)
    (hc : r.code ∈ requestCodes) : lengthFits r.code r.params = true := by
  cases i <;> simp only [requestOf, Option.some.injEq, reduceCtorEq] at hi
  case reactLoad =>
    subst hi
    simp only [Instr.wellFormed, Bool.and_eq_true, decide_eq_true_eq] at hw
    exact lengthFits_reactLoadRequest hw.1 hw.2
  case outWriteSet tag line level duration rest =>
    subst hi
    exact lengthFits_outWriteRequest (by simp) (by simpa [Instr.wellFormed, Nat.lt_succ_iff] using hw)
  case outWriteToggle tag line level duration rest =>
    subst hi
    exact lengthFits_outWriteRequest (by simp) (by simpa [Instr.wellFormed, Nat.lt_succ_iff] using hw)
  case outWritePulse tag line level duration rest =>
    subst hi
    exact lengthFits_outWriteRequest (by simp) (by simpa [Instr.wellFormed, Nat.lt_succ_iff] using hw)
  case unknownCodeRequest tag code params =>
    split at hi
    · cases hi
    · next hno => cases hi; exact absurd hc (by simpa using hno)
  all_goals (subst hi; rfl)

/-- R180: a request whose length fits its code fits a frame body. -/
theorem params_length_of_lengthFits {code : Byte} {params : List Byte} (h : lengthFits code params = true) : params.length ≤ 247 := by
  rcases (lengthFits_iff code params).mp h with ⟨-, h⟩ | ⟨-, h⟩ | ⟨-, h⟩ | ⟨-, h⟩ | ⟨-, h⟩ | ⟨-, h⟩ | ⟨-, h⟩ | ⟨-, h⟩ |
    ⟨-, count, -, -, h4, h⟩ | ⟨-, count, -, -, h8, h⟩ <;> omega

theorem requestBody_length_of_wellFormed {i : Instr} {r : Request} (hw : i.wellFormed = true) (hi : requestOf i = some r) :
    (requestBody r).length ≤ 250 := by
  by_cases hc : r.code ∈ requestCodes
  · exact (Sys2Proof.Laws.fits_of_params r (params_length_of_lengthFits (lengthFits_of_wellFormed hw hi hc))).2
  · cases i <;> simp only [requestOf, Option.some.injEq, reduceCtorEq] at hi
    case unknownCodeRequest tag code params =>
      exact (Sys2Proof.Laws.FrameFits.unknownCodeRequest tag code params hw r hi).2
    all_goals (subst hi; exact absurd (List.contains_iff_mem.mp rfl) hc)

/-- Settles O26: the LENGTH check by the table, and the layouts as they stand. -/
theorem wellFormedRequestsFitTheirLength : Obligations.WellFormedRequestsFitTheirLength := by
  refine ⟨lengthFits_iff, fun i r hw hi => ⟨lengthFits_of_wellFormed hw hi, requestBody_length_of_wellFormed hw hi⟩,
    fun code => Iff.rfl, fun r => rfl, ?_⟩
  intro tag a b c d e f g h mask w actions rest params is operations operationBytes
  refine ⟨?_, ?_, ?_, ?_, ?_, ?_, ?_, ?_, ?_, ?_, ?_, ?_, ?_, ?_, ?_, ?_, ?_, ?_, ?_, ?_, ?_, ?_, ?_, ?_, ?_, ?_, ?_, ?_, ?_, ?_, ?_,
    fun hc => ?_⟩
  case refine_32 => simp [requestOf, hc]
  all_goals exact ⟨rfl, rfl⟩

end Sys2Proof.Machine
end

section
/-! SUPPORT. The requests of the reaction table and OUT_WRITE (R101, R117 to R119, R122, R123, R129): what each owner leaves, and the
outcome of its request. -/

namespace Sys2Proof.Machine

open Sys2Proof

/-! ### Counted lists read back -/

theorem actionGroups_flatten (l : List ActionBytes) : actionGroups (l.map actionParamBytes).flatten = l := by
  induction l with
  | nil => rfl
  | cons b l ih =>
    have hgroup : actionGroups ((b :: l).map actionParamBytes).flatten = b :: actionGroups (l.map actionParamBytes).flatten := rfl
    rw [hgroup, ih]

theorem outOpGroups_flatten (l : List OutOpBytes) : outOpGroups (l.map outOpBytes).flatten = l := by
  induction l with
  | nil => rfl
  | cons b l ih =>
    have hgroup : outOpGroups ((b :: l).map outOpBytes).flatten =
        { b with duration := join24 (b.duration.extractLsb' 16 8) (b.duration.extractLsb' 8 8) (b.duration.extractLsb' 0 8) } ::
          outOpGroups (l.map outOpBytes).flatten := rfl
    rw [hgroup, ih, join24_bytes24]

/-! ### REACT_LOAD (R117) -/

theorem ownerOf_reactLoad (tag entry kind index qualifier : Byte) (width : Word24) (fireLimit doneClass reportDone : Byte)
    (actions : List ActionBytes) (t : State) :
    let r := reactLoadRequest tag entry kind index qualifier width fireLimit doneClass reportDone actions
    ownerOf r.code r.params t = ownerReactLoad entry kind index qualifier width fireLimit doneClass reportDone actions t := by
  intro r
  have howner : ownerOf r.code r.params t = ownerReactLoad entry kind index qualifier
      (join24 (width.extractLsb' 16 8) (width.extractLsb' 8 8) (width.extractLsb' 0 8)) fireLimit doneClass reportDone
      (actionGroups (actions.map actionParamBytes).flatten) t := rfl
  rw [howner, join24_bytes24, actionGroups_flatten]

/-- Settles O21: RANGE, then ACTIVE, and else the entry written whole. -/
theorem reactLoadWritesTheEntry : Obligations.ReactLoadWritesTheEntry := by
  intro tag entry kind index qualifier width fireLimit doneClass reportDone actions s r i contents ha hd h1 h4
  have hg : genericRefusal r s = none :=
    genericRefusal_none (by simp [r, reactLoadRequest, requestCodes]) (lengthFits_reactLoadRequest h1 h4) (.inl hd)
  have howner := ownerOf_reactLoad tag entry kind index qualifier width fireLimit doneClass reportDone actions (executing r s)
  constructor
  · rintro j c rfl hc
    refine ⟨fun hnot => ?_, fun x hx => ?_⟩
    · have hexec : exec i s = acceptedWith r [] s (setEntry j { state := .disarmed c, remaining := 0, fires := 0 } (arrived r s)) := by
        refine exec_accepted rfl ha hg (howner.trans ?_) (by constructor <;> rfl)
        simp only [ownerReactLoad, indexOf_byteOf 16 (by decide), show contentsOf _ _ _ _ _ _ _ _ = some c from hc, entryAt_executing]
        rfl
      simpa only [setEntry, arrived_entries] using hexec
    · refine exec_owner_refused rfl ha hg (howner.trans ?_)
      simp only [ownerReactLoad, indexOf_byteOf 16 (by decide), show contentsOf _ _ _ _ _ _ _ _ = some c from hc, entryAt_executing, hx]
  · intro hbad
    refine exec_owner_refused rfl ha hg (howner.trans ?_)
    unfold ownerReactLoad
    split
    · next hi hc =>
      rcases hbad with h | h
      · rw [indexOf_none 16 entry h] at hi; cases hi
      · cases h.symm.trans hc
    · rfl

/-! ### REACT_CTL (R101, R118) -/

section
variable {i : Instr} {tag op : Byte} {mask : Word16} {f : EntryId → State → State} {g : Entry → Entry} {s : State}

theorem genericRefusal_reactCtl (tag : Byte) (mask : Word16) (op : Byte) (hd : s.link ≠ .down) :
    genericRefusal (reactCtlRequest tag mask op) s = none :=
  genericRefusal_none (by simp [reactCtlRequest, requestCodes]) rfl (.inl hd)

theorem ownerOf_reactCtl (tag : Byte) (mask : Word16) (op : Byte) (t : State) :
    ownerOf (reactCtlRequest tag mask op).code (reactCtlRequest tag mask op).params t = ownerReactCtl mask op t := by
  conv_rhs => rw [← join16_bytes16 mask]
  rfl

theorem overEntries_executing (mask : Word16) (r : Request)
    (hf : ∀ (u : State) (k : EntryId) (x : Vector Entry 16), f k { u with entries := x } = { u with entries := x.set k (g x[k]) }) :
    overEntries mask f (executing r s) = whileExecuting s { arrived r s with
      entries := Vector.ofFn (fun i => if mask.getLsbD i.val then g (entryAt s i) else entryAt s i) } := by
  rw [overEntries, foldEntries_eq (fun i => mask.getLsbD i.val) f g _ (hf _)]
  simp only [entryAt_executing]
  rfl

/-- R118: an operation of REACT_CTL that is accepted acts on the entries of the mask as one update. -/
theorem exec_reactCtl (hd : s.link ≠ .down) (hi : requestOf i = some (reactCtlRequest tag mask op))
    (howner : ∀ t, t.entries = s.entries → ownerReactCtl mask op t = accept (overEntries mask f t) [])
    (hf : ∀ (u : State) (k : EntryId) (x : Vector Entry 16), f k { u with entries := x } = { u with entries := x.set k (g x[k]) })
    (ha : Acceptable (reactCtlRequest tag mask op) s) :
    exec i s = acceptedWith (reactCtlRequest tag mask op) [] s { arrived (reactCtlRequest tag mask op) s with
      entries := Vector.ofFn (fun i => if mask.getLsbD i.val then g (entryAt s i) else entryAt s i) } := by
  refine exec_accepted hi ha (genericRefusal_reactCtl tag mask op hd) ?_ (by constructor <;> rfl)
  rw [ownerOf_reactCtl, howner _ (executing_entries _ s), overEntries_executing mask _ hf]

theorem namesEmptyEntry_iff (mask : Word16) (s : State) :
    namesEmptyEntry mask s = true ↔ ∃ i : EntryId, mask.getLsbD i.val = true ∧ (entryAt s i).state = .empty := by
  simp [namesEmptyEntry, allEntries]

theorem exec_reactCtlArm_disabled (hd : s.link ≠ .down) (ha : Acceptable (reactCtlRequest tag mask 0) s)
    (hempty : ∃ i : EntryId, mask.getLsbD i.val = true ∧ (entryAt s i).state = .empty) :
    exec (.reactCtlArm tag mask) s = refusedWith (reactCtlRequest tag mask 0) .disabled s := by
  refine exec_owner_refused rfl ha (genericRefusal_reactCtl tag mask 0 hd) ?_
  have hnames : namesEmptyEntry mask (executing (reactCtlRequest tag mask 0) s) = true := by
    simpa only [namesEmptyEntry_iff, entryAt_executing] using hempty
  rw [ownerOf_reactCtl, ownerReactCtl]
  exact if_pos hnames

theorem exec_reactCtlArm_accepted (hd : s.link ≠ .down) (ha : Acceptable (reactCtlRequest tag mask 0) s)
    (hempty : ¬ ∃ i : EntryId, mask.getLsbD i.val = true ∧ (entryAt s i).state = .empty) :
    exec (.reactCtlArm tag mask) s = acceptedWith (reactCtlRequest tag mask 0) [] s { arrived (reactCtlRequest tag mask 0) s with
      entries := Vector.ofFn (fun i => if mask.getLsbD i.val then armedEntry (entryAt s i) else entryAt s i) } := by
  refine exec_reactCtl (f := armEntry) (g := armedEntry) hd rfl (fun t ht => ?_) (fun _ _ _ => rfl) ha
  have hnames : ¬ namesEmptyEntry mask t = true := by
    simpa only [namesEmptyEntry_iff, entryAt, ht] using hempty
  rw [ownerReactCtl]
  exact if_neg hnames

theorem ownerReactCtl_range {mask : Word16} {op : Byte} (h : 3 ≤ op.toNat) (t : State) : ownerReactCtl mask op t = refuse .range t := by
  unfold ownerReactCtl
  split <;> first | omega | rfl

end

/-- Settles O22: each operation over the mask as one update of the entries. -/
theorem reactCtlActsOnTheMask : Obligations.ReactCtlActsOnTheMask := by
  intro tag mask s hd onMask empty
  refine ⟨exec_reactCtlArm_disabled hd, exec_reactCtlArm_accepted hd, ?_, ?_, ?_⟩
  · exact exec_reactCtl (i := .reactCtlDisarm tag mask) (op := 1) (f := disarmEntry) (g := disarmedEntry) hd rfl (fun _ _ => rfl)
      fun _ _ _ => rfl
  · exact exec_reactCtl (i := .reactCtlClear tag mask) (op := 2) (f := clearEntry) (g := fun _ => Entry.default) hd rfl
      (fun _ _ => rfl) fun _ _ _ => rfl
  · intro op hop r ha hq
    refine exec_requestFrame_refused ha hq (genericRefusal_reactCtl tag mask op hd) ?_
    rw [ownerOf_reactCtl, ownerReactCtl_range hop]

/-! ### REACT_READ (R119, R183) -/

theorem exec_reactRead {tag : Byte} {i : EntryId} {s : State} (hd : s.link ≠ .down)
    (ha : Acceptable (reactReadRequest tag (byteOf i.val)) s) :
    exec (.reactRead tag (byteOf i.val)) s = acceptedWith (reactReadRequest tag (byteOf i.val)) (entryData (entryAt s i)) s
      (arrived (reactReadRequest tag (byteOf i.val)) s) := by
  refine exec_read rfl ha (genericRefusal_none (by simp [reactReadRequest, requestCodes]) rfl (.inl hd)) ?_
  show ownerReactRead _ _ = _
  simp only [ownerReactRead, indexOf_byteOf 16 (by decide), entryAt_executing]

/-- R183: the data of an entry that holds contents. -/
theorem entryData_of_contents {e : Entry} {c : EntryContents} (h : e.state = .disarmed c ∨ e.state = .armed c) :
    entryData e = [if e.state = .disarmed c then 1 else 2] ++ bytes16 e.fires ++ [byteOf c.actions.length] ++
      sourceBytes c.source ++ [qualifierByte c.qualifier] ++ bytes24 c.width ++
      [c.fireLimit, e.remaining, byteOf c.doneClass.val, flagByte c.reportDone] ++
      (c.actions.map (fun l => actionUsedBytes l.action ++ l.unused)).flatten := by
  have hmap : c.actions.map actionBytes = c.actions.map (fun l => actionUsedBytes l.action ++ l.unused) := rfl
  rcases h with h | h <;> simp [entryData, h, contentsData, hmap]

/-- Settles O23: REACT_READ by the state of the entry. -/
theorem reactReadReturnsTheEntry : Obligations.ReactReadReturnsTheEntry := by
  intro tag entry s ha hd r
  constructor
  · rintro i rfl
    have hexec := exec_reactRead hd ha
    refine ⟨fun he => ?_, fun c hc => ?_⟩
    · rw [hexec, entryData, he]
    · rw [hexec, entryData_of_contents hc]
  · intro hb
    refine exec_owner_refused rfl ha (genericRefusal_none (by simp [r, reactReadRequest, requestCodes]) rfl (.inl hd)) ?_
    show ownerReactRead _ _ = _
    rw [ownerReactRead, indexOf_none 16 entry hb]

/-! ### OUT_WRITE (R122, R123, R129) -/

/-- R122, R123: the outputs after one operation at `now`. -/
def claimed (now : Time) (o : Vector Output 8) (op : OutOp) : Vector Output 8 := o.set (opLine op) (applyClaim now op o[opLine op])

/-- Claims act on the outputs alone. -/
theorem claims_eq (ops : List OutOp) (s : State) (o : Vector Output 8) :
    ops.foldl (fun s op => claim op s) { s with outputs := o } = { s with outputs := ops.foldl (claimed s.timebase) o } := by
  induction ops generalizing o with
  | nil => rfl
  | cons op ops ih => exact ih (claimed s.timebase o op)

section
variable {i : Instr} {tag : Byte} {bytes : List OutOpBytes} {ops : List OutOp} {s : State}

theorem ownerOf_outWrite (tag : Byte) (bytes : List OutOpBytes) (t : State) :
    ownerOf (outWriteRequest tag bytes).code (outWriteRequest tag bytes).params t = ownerOutWrite bytes t := by
  have howner : ownerOf (outWriteRequest tag bytes).code (outWriteRequest tag bytes).params t =
      ownerOutWrite (outOpGroups (bytes.map outOpBytes).flatten) t := rfl
  rw [howner, outOpGroups_flatten]

theorem genericRefusal_outWrite (tag : Byte) (hd : s.link ≠ .down) (h1 : 1 ≤ bytes.length) (h8 : bytes.length ≤ 8) :
    genericRefusal (outWriteRequest tag bytes) s = none :=
  genericRefusal_none (by simp [outWriteRequest, requestCodes]) (lengthFits_outWriteRequest h1 h8) (.inl hd)

theorem ownerOutWrite_range (h : ∃ b ∈ bytes, outOpOf b = none) (t : State) : ownerOutWrite bytes t = refuse .range t := by
  rw [ownerOutWrite, (outOpsOf_eq_none_iff bytes).mpr h]

theorem ownerOutWrite_locked (hops : bytes.map outOpOf = ops.map some) {t : State}
    (h : ∃ op ∈ ops, (outputAt t (opLine op)).locked = true) : ownerOutWrite bytes t = refuse .locked t := by
  have hany : ops.any (fun op => (outputAt t (opLine op)).locked) = true := by simpa using h
  simp only [ownerOutWrite, (outOpsOf_eq_some_iff bytes ops).mpr hops, hany, if_true]

theorem ownerOutWrite_accept (hops : bytes.map outOpOf = ops.map some) {t : State} (htime : t.timebase = s.timebase)
    (hout : t.outputs = s.outputs) (h : ∀ op ∈ ops, (outputAt t (opLine op)).locked = false) :
    ownerOutWrite bytes t = accept { t with outputs := ops.foldl (claimed s.timebase) s.outputs } [] := by
  have hany : ¬ ops.any (fun op => (outputAt t (opLine op)).locked) = true := by simpa using h
  simp only [ownerOutWrite, (outOpsOf_eq_some_iff bytes ops).mpr hops, if_neg hany]
  rw [← htime, ← hout]
  exact congrArg (accept · []) (claims_eq ops t t.outputs)

theorem exec_outWrite_accepted (hi : requestOf i = some (outWriteRequest tag bytes)) (hd : s.link ≠ .down) (h1 : 1 ≤ bytes.length)
    (h8 : bytes.length ≤ 8) (ha : Acceptable (outWriteRequest tag bytes) s) (hops : bytes.map outOpOf = ops.map some)
    (h : ∀ op ∈ ops, (outputAt s (opLine op)).locked = false) :
    exec i s = acceptedWith (outWriteRequest tag bytes) [] s { arrived (outWriteRequest tag bytes) s with
      outputs := ops.foldl (claimed s.timebase) s.outputs } := by
  refine exec_accepted hi ha (genericRefusal_outWrite tag hd h1 h8) ?_ (by constructor <;> rfl)
  rw [ownerOf_outWrite, ownerOutWrite_accept hops (executing_timebase _ s) (executing_outputs _ s) (by simpa using h)]
  rfl

theorem exec_outWrite_locked (hi : requestOf i = some (outWriteRequest tag bytes)) (hd : s.link ≠ .down) (h1 : 1 ≤ bytes.length)
    (h8 : bytes.length ≤ 8) (ha : Acceptable (outWriteRequest tag bytes) s) (hops : bytes.map outOpOf = ops.map some)
    (h : ∃ op ∈ ops, (outputAt s (opLine op)).locked = true) :
    exec i s = refusedWith (outWriteRequest tag bytes) .locked s := by
  refine exec_owner_refused hi ha (genericRefusal_outWrite tag hd h1 h8) ?_
  rw [ownerOf_outWrite, ownerOutWrite_locked hops (by simpa using h)]

theorem exec_outWrite_range (hi : requestOf i = some (outWriteRequest tag bytes)) (hd : s.link ≠ .down) (h1 : 1 ≤ bytes.length)
    (h8 : bytes.length ≤ 8) (ha : Acceptable (outWriteRequest tag bytes) s) (h : ∃ b ∈ bytes, outOpOf b = none) :
    exec i s = refusedWith (outWriteRequest tag bytes) .range s := by
  refine exec_owner_refused hi ha (genericRefusal_outWrite tag hd h1 h8) ?_
  rw [ownerOf_outWrite, ownerOutWrite_range h]

end

theorem outOpOf_none_of_kind {b : OutOpBytes} (h : 3 ≤ b.kind.toNat) : outOpOf b = none := by
  rw [outOpOf_eq_none_iff]
  rintro ⟨-, hk | ⟨-, hk | ⟨hk, -⟩⟩⟩ <;> rw [hk] at h <;> exact absurd h (by decide)

/-- Settles O24: RANGE, then LOCKED, and else the claims in list order. -/
theorem outWriteClaimsTheLines : Obligations.OutWriteClaimsTheLines := by
  intro tag line level duration rest s hd hrest taken answersAs
  have htaken : taken = claimed s.timebase := by
    funext o op; cases op <;> rfl
  have hanswers : ∀ (kind : Byte) (i : Instr),
      requestOf i = some (outWriteRequest tag ({ line := line, kind := kind, level := level, duration := duration } :: rest)) →
      answersAs kind i := fun kind i hi ha => by
    have h8 : ({ line := line, kind := kind, level := level, duration := duration } :: rest : List OutOpBytes).length ≤ 8 :=
      Nat.succ_le_succ hrest
    refine ⟨fun ops hops => ⟨fun h => ?_, exec_outWrite_locked hi hd (by simp) h8 ha hops⟩, exec_outWrite_range hi hd (by simp) h8 ha⟩
    rw [htaken]
    exact exec_outWrite_accepted hi hd (by simp) h8 ha hops h
  refine ⟨hanswers 0 _ rfl, hanswers 1 _ rfl, hanswers 2 _ rfl, ?_⟩
  intro kind hk r ha hq
  refine exec_requestFrame_refused ha hq (genericRefusal_outWrite tag hd (by simp) (Nat.succ_le_succ hrest)) ?_
  rw [ownerOf_outWrite, ownerOutWrite_range ⟨_, List.mem_cons_self, outOpOf_none_of_kind hk⟩]

end Sys2Proof.Machine
end

section
/-! SUPPORT. The receiver (R169, R171, R174 to R178): bytes taken one by one and in runs, discards and rescans. -/

namespace Sys2Proof.Machine

open Sys2Proof

/-! ### Bytes in runs -/

/-- A run of bytes that ends no frame in a discard goes on with what follows it. -/
theorem takeBytes_append_of_taken {due : Time} {a b : List Byte} {s t : State} (h : takeBytes due a s = (t, none)) :
    takeBytes due (a ++ b) s = takeBytes due b t := by
  induction a generalizing s with
  | nil => cases h; rfl
  | cons x a ih =>
    rw [List.cons_append]
    rcases hx : takeByte due x s with ⟨s', _ | more⟩ <;> simp only [takeBytes, hx] at h
    · rw [takeBytes, hx]
      exact ih h
    · cases h

/-- A run of bytes that ends in a discard leaves what follows it behind the bytes to take again. -/
theorem takeBytes_append_of_discard {due : Time} {a b again : List Byte} {s t : State} (h : takeBytes due a s = (t, some again)) :
    takeBytes due (a ++ b) s = (t, some (again ++ b)) := by
  induction a generalizing s with
  | nil => cases h
  | cons x a ih =>
    rw [List.cons_append]
    rcases hx : takeByte due x s with ⟨s', _ | more⟩ <;> simp only [takeBytes, hx] at h
    · rw [takeBytes, hx]
      exact ih h
    · cases h
      rw [takeBytes, hx, List.append_assoc]

theorem takeBytes_singleton (due : Time) (b : Byte) (s : State) : takeBytes due [b] s = takeByte due b s := by
  unfold takeBytes
  split
  · next s' h => rw [h]; rfl
  · next s' again h => rw [h, List.append_nil]

theorem feed_of_taken {due : Time} {n : Nat} {a b : List Byte} {s t : State} (h : takeBytes due a s = (t, none)) :
    feed due (n + 1) (a ++ b) s = feed due (n + 1) b t := by
  rw [feed, takeBytes_append_of_taken h, feed]

theorem feed_of_discard {due : Time} {n : Nat} {a b again : List Byte} {s t : State} (h : takeBytes due a s = (t, some again)) :
    feed due (n + 1) (a ++ b) s = feed due n (again ++ b) t := by
  rw [feed, takeBytes_append_of_discard h]

theorem feed_nil (due : Time) (n : Nat) (s : State) : feed due n [] s = s := by
  cases n <;> rfl

/-- Bytes that are all taken leave what they leave. -/
theorem feed_eq_of_taken {due : Time} {n : Nat} {a : List Byte} {s t : State} (h : takeBytes due a s = (t, none)) :
    feed due (n + 1) a s = t := by
  rw [feed, h]

/-- R174: in HUNT bytes that are no SYNC have no effect. -/
theorem takeBytes_no_sync {due : Time} {bytes : List Byte} {s : State} (hrx : s.rx = .hunt) (h : syncByte ∉ bytes) :
    takeBytes due bytes s = (s, none) := by
  induction bytes with
  | nil => rfl
  | cons b rest ih =>
    simp only [List.mem_cons, not_or] at h
    obtain ⟨hb, hrest⟩ := h
    have hbyte : takeByte due b s = (s, none) := by
      simp only [takeByte, hrx]
      rw [if_neg (Ne.symm hb)]
    rw [takeBytes, hbyte]
    exact ih hrest

/-- R176: a rescan of bytes that hold no SYNC ends in HUNT. -/
theorem feed_no_sync {due : Time} {n : Nat} {bytes : List Byte} {s : State} (hrx : s.rx = .hunt) (h : syncByte ∉ bytes) :
    feed due n bytes s = s := by
  cases n with
  | zero => rfl
  | succ n => exact feed_eq_of_taken (takeBytes_no_sync hrx h)

/-! ### A frame being collected -/

/-- The receiver of `u` with a frame being collected: its state, what has been taken after SYNC, and when its gap timer is due. -/
def collecting (due : Time) (rx : RxState) (candidate : List Byte) (u : State) : State :=
  { u with rx := rx, candidate := candidate, gapDue := some due }

/-- R174: the receiver is in BODY until LEN bytes have followed LEN, then in CHECK. -/
def collected (len : Byte) (kept : List Byte) : RxState := if kept.length < len.toNat then .body else .check

theorem takeByte_sync {due : Time} {u : State} (hrx : u.rx = .hunt) : takeByte due syncByte u = (collecting due .length [] u, none) := by
  simp only [takeByte, hrx, if_true]
  rfl

theorem takeByte_len {due due' : Time} {len : Byte} {u : State} (h3 : 3 ≤ len.toNat) (h250 : len.toNat ≤ 250) :
    takeByte due len (collecting due' .length [] u) = (collecting due (collected len []) [len] u, none) := by
  have hbody : collected len [] = .body := if_pos (by simp only [List.length_nil]; omega)
  simp only [takeByte, collecting, h3, h250, and_self, if_true, hbody]
  rfl

/-- R174: a byte of the body, or the first of the CRC. -/
theorem takeByte_collected {due due' : Time} {len b : Byte} {kept : List Byte} {u : State} (h : kept.length ≤ len.toNat) :
    takeByte due b (collecting due' (collected len kept) (len :: kept) u) =
      (collecting due (collected len (kept ++ [b])) (len :: (kept ++ [b])) u, none) := by
  by_cases hb : kept.length < len.toNat
  · have hrx : collected len kept = .body := if_pos hb
    by_cases hlast : kept.length + 1 = len.toNat
    · have hnext : collected len (kept ++ [b]) = .check :=
        if_neg (by simp only [List.length_append, List.length_singleton]; omega)
      simp [takeByte, collecting, hrx, hnext, candidateLen, hlast, keepByte]
    · have hnext : collected len (kept ++ [b]) = .body :=
        if_pos (by simp only [List.length_append, List.length_singleton]; omega)
      simp [takeByte, collecting, hrx, hnext, candidateLen, hlast, keepByte]
  · have hrx : collected len kept = .check := if_neg hb
    have hnext : collected len (kept ++ [b]) = .check :=
      if_neg (by simp only [List.length_append, List.length_singleton]; omega)
    have hfirst : kept.length + 1 = len.toNat + 1 := by omega
    simp [takeByte, collecting, hrx, hnext, candidateLen, hfirst, keepByte]

/-- R174: the beginning of a frame after SYNC. -/
theorem takeBytes_collects {due : Time} {len : Byte} {u : State} (h3 : 3 ≤ len.toNat) (h250 : len.toNat ≤ 250) (kept : List Byte)
    (h : kept.length ≤ len.toNat + 1) :
    takeBytes due (len :: kept) (collecting due .length [] u) = (collecting due (collected len kept) (len :: kept) u, none) := by
  induction kept using List.reverseRecOn with
  | nil => rw [takeBytes_singleton, takeByte_len h3 h250]
  | append_singleton kept b ih =>
    rw [List.length_append, List.length_singleton] at h
    rw [← List.cons_append, takeBytes_append_of_taken (ih (by omega)), takeBytes_singleton, takeByte_collected (by omega),
      List.cons_append]

/-- R175: the second byte of the CRC completes the frame. -/
theorem takeByte_completes {due : Time} {len c1 c0 : Byte} {body : List Byte} {s : State} (hrx : s.rx = .check)
    (hc : s.candidate = len :: body ++ [c1]) (hlen : body.length = len.toNat) :
    takeByte due c0 s =
      if [c1, c0] = bytes16 (crc (len :: body)) then
        (settle (soundFrame body (toHunt s)), none) else (discarded s, some (len :: body ++ [c1, c0])) := by
  have hlen' : candidateLen s = len.toNat := by simp only [candidateLen, hc, List.cons_append]
  have hne : ¬ s.candidate.length = len.toNat + 1 := by simp [hc, hlen]
  have hbytes : s.candidate ++ [c0] = len :: body ++ [c1, c0] := by rw [hc, List.append_assoc]; rfl
  have htake : (len :: body ++ [c1, c0]).take (len.toNat + 1) = len :: body := by
    rw [List.cons_append, List.take_succ_cons, ← hlen, List.take_left]
  have hdrop : (len :: body ++ [c1, c0]).drop (len.toNat + 1) = [c1, c0] := by
    rw [List.cons_append, List.drop_succ_cons, ← hlen, List.drop_left]
  simp only [takeByte, hrx, completeFrame, hlen', if_neg hne, hbytes, htake, hdrop]
  rfl

theorem takeBytes_frame {due : Time} {len c1 c0 : Byte} {body : List Byte} {u : State} (h3 : 3 ≤ len.toNat) (h250 : len.toNat ≤ 250)
    (hlen : body.length = len.toNat) :
    takeBytes due (len :: body ++ [c1, c0]) (collecting due .length [] u) =
      if [c1, c0] = bytes16 (crc (len :: body)) then
        (settle (soundFrame body (toHunt u)), none) else (discarded u, some (len :: body ++ [c1, c0])) := by
  have hcheck : collected len (body ++ [c1]) = .check :=
    if_neg (by simp only [List.length_append, List.length_singleton]; omega)
  have hfirst := takeBytes_collects (due := due) (u := u) h3 h250 (body ++ [c1])
    (by simp only [List.length_append, List.length_singleton]; omega)
  rw [show len :: body ++ [c1, c0] = (len :: (body ++ [c1])) ++ [c0] by simp, takeBytes_append_of_taken hfirst, hcheck,
    takeBytes_singleton, takeByte_completes rfl rfl hlen]
  simp only [List.cons_append, List.append_assoc, List.nil_append]
  rfl

/-! ### A rescan (R176) -/

section
variable {due : Time} {n : Nat} {dropped : List Byte} {u : State}

/-- What stands before a SYNC is dropped, and the SYNC opens a frame. -/
theorem feed_opens (hrx : u.rx = .hunt) (hd : syncByte ∉ dropped) (rest : List Byte) :
    feed due (n + 1) (dropped ++ syncByte :: rest) u = feed due (n + 1) rest (collecting due .length [] u) := by
  have hsync : takeBytes due [syncByte] u = (collecting due .length [] u, none) := by rw [takeBytes_singleton, takeByte_sync hrx]
  rw [feed_of_taken (takeBytes_no_sync hrx hd), ← List.singleton_append, feed_of_taken hsync]

theorem feed_begins (hrx : u.rx = .hunt) (hd : syncByte ∉ dropped) {len : Byte} {kept : List Byte} (h3 : 3 ≤ len.toNat)
    (h250 : len.toNat ≤ 250) (hk : kept.length ≤ len.toNat + 1) :
    feed due (n + 1) (dropped ++ syncByte :: len :: kept) u = collecting due (collected len kept) (len :: kept) u := by
  rw [feed_opens hrx hd, feed_eq_of_taken (takeBytes_collects h3 h250 kept hk)]

/-- A whole frame is handled, with all that follows an event, before the next byte. -/
theorem feed_handles (hrx : u.rx = .hunt) (hd : syncByte ∉ dropped) {body : List Byte} (rest : List Byte) (h3 : 3 ≤ body.length)
    (h250 : body.length ≤ 250) :
    feed due (n + 1) (dropped ++ syncByte :: frameTail body ++ rest) u = feed due (n + 1) rest (settle (soundFrame body (toHunt u))) := by
  have hlen : (byteOf body.length).toNat = body.length := byteOf_toNat (by omega)
  obtain ⟨c1, c0, hcrc⟩ : ∃ c1 c0, bytes16 (crc (byteOf body.length :: body)) = [c1, c0] := ⟨_, _, rfl⟩
  have hframe := takeBytes_frame (due := due) (u := u) (c1 := c1) (c0 := c0) (by omega) (by omega) hlen.symm
  rw [if_pos hcrc.symm] at hframe
  rw [List.append_assoc, List.cons_append, feed_opens hrx hd, frameTail, hcrc, feed_of_taken hframe]

theorem feed_bad_len (hrx : u.rx = .hunt) (hd : syncByte ∉ dropped) {len : Byte} (rest : List Byte) (h : len.toNat < 3 ∨ 250 < len.toNat) :
    feed due (n + 1) (dropped ++ syncByte :: len :: rest) u = feed due n (len :: rest) (discarded u) := by
  have hlen : takeBytes due [len] (collecting due .length [] u) = (discarded u, some [len]) := by
    have hout : ¬ (3 ≤ len.toNat ∧ len.toNat ≤ 250) := by omega
    rw [takeBytes_singleton]
    simp only [takeByte, collecting, if_neg hout, List.nil_append]
    rfl
  rw [feed_opens hrx hd, ← List.singleton_append, feed_of_discard hlen]

theorem feed_bad_crc (hrx : u.rx = .hunt) (hd : syncByte ∉ dropped) {len c1 c0 : Byte} {body : List Byte} (rest : List Byte)
    (h3 : 3 ≤ len.toNat) (h250 : len.toNat ≤ 250) (hlen : body.length = len.toNat) (h : [c1, c0] ≠ bytes16 (crc (len :: body))) :
    feed due (n + 1) (dropped ++ syncByte :: (len :: body ++ [c1, c0] ++ rest)) u =
      feed due n (len :: body ++ [c1, c0] ++ rest) (discarded u) := by
  have hframe := takeBytes_frame (due := due) (u := u) h3 h250 hlen (c1 := c1) (c0 := c0)
  rw [if_neg h] at hframe
  rw [feed_opens hrx hd, feed_of_discard hframe]

end

/-! ### One byte (R174) -/

theorem receiveByte_of_taken {b : Byte} {s t : State} (h : takeByte (s.timebase + gapLimit s.rate) b s = (t, none)) : receiveByte b s = t := by
  rw [receiveByte, feed_eq_of_taken (by rw [takeBytes_singleton, h])]

theorem receiveByte_of_discard {b : Byte} {again : List Byte} {s t : State}
    (h : takeByte (s.timebase + gapLimit s.rate) b s = (t, some again)) :
    receiveByte b s = feed (s.timebase + gapLimit s.rate) (s.candidate.length + 1) again t := by
  rw [receiveByte, feed, takeBytes_singleton, h]

theorem takeByte_length {due : Time} {b : Byte} {s : State} (hrx : s.rx = .length) (h3 : 3 ≤ b.toNat) (h250 : b.toNat ≤ 250) :
    takeByte due b s = (keepByte .body due b s, none) := by
  simp only [takeByte, hrx]
  rw [if_pos ⟨h3, h250⟩]

theorem takeByte_bad_len {due : Time} {b : Byte} {s : State} (hrx : s.rx = .length) (h : b.toNat < 3 ∨ 250 < b.toNat) :
    takeByte due b s = (discarded s, some (s.candidate ++ [b])) := by
  simp only [takeByte, hrx]
  rw [if_neg (by omega)]
  rfl

theorem takeByte_body {due : Time} {b : Byte} {s : State} (hrx : s.rx = .body) (h : s.candidate.length ≠ candidateLen s) :
    takeByte due b s = (keepByte .body due b s, none) := by
  simp only [takeByte, hrx]
  rw [if_neg h]

theorem takeByte_last {due : Time} {b : Byte} {s : State} (hrx : s.rx = .body) (h : s.candidate.length = candidateLen s) :
    takeByte due b s = (keepByte .check due b s, none) := by
  simp only [takeByte, hrx]
  rw [if_pos h]

theorem takeByte_check {due : Time} {b : Byte} {s : State} (hrx : s.rx = .check) (h : s.candidate.length = candidateLen s + 1) :
    takeByte due b s = (keepByte .check due b s, none) := by
  simp only [takeByte, hrx]
  rw [if_pos h]

theorem takeByte_bad_crc {due : Time} {b : Byte} {s : State} (hrx : s.rx = .check) (h : s.candidate.length = candidateLen s + 2)
    (hcrc : (s.candidate ++ [b]).drop (candidateLen s + 1) ≠ bytes16 (crc (s.candidate.take (candidateLen s + 1)))) :
    takeByte due b s = (discarded s, some (s.candidate ++ [b])) := by
  have htake : (s.candidate ++ [b]).take (candidateLen s + 1) = s.candidate.take (candidateLen s + 1) :=
    List.take_append_of_le_length (by omega)
  simp only [takeByte, hrx, completeFrame, htake]
  rw [if_neg (by omega), if_neg hcrc]
  rfl

/-! ### The commands of the receiver -/

/-- An event that does nothing is what follows every event. -/
theorem event_idle {f : State → State} {s : State} (hh : s.hardReset = none) (h : f (selectWaiting s) = selectWaiting s) :
    event f s = .next (settle s) := by
  rw [event_eq f s hh, h]
  exact congrArg _ (settle_selectWaiting (f := id) s (fun _ _ _ => rfl) rfl rfl rfl rfl rfl rfl)

section
variable {b : Byte} {s : State}

theorem exec_character (hh : s.hardReset = none) (hfit : charactersFit 1 s = true) :
    exec (.characterReceived b) s = .next (settle (receiveByte b { selectWaiting s with rxHeld := false })) := by
  show event (takeCharacter b) s = _
  rw [event_eq _ _ hh, takeCharacter, if_pos (by simpa using hfit)]

/-- A byte the candidate takes, in any state of the receiver. -/
theorem exec_character_kept {next : RxState} (hh : s.hardReset = none) (hfit : charactersFit 1 s = true)
    (h : ∀ due t, t.rx = s.rx → t.candidate = s.candidate → takeByte due b t = (keepByte next due b t, none)) :
    exec (.characterReceived b) s =
      .next (settle { s with rx := next, candidate := s.candidate ++ [b], gapDue := some (s.timebase + gapLimit s.rate), rxHeld := false }) := by
  rw [exec_character hh hfit,
    receiveByte_of_taken (h _ { selectWaiting s with rxHeld := false } (selectWaiting_rx s) (selectWaiting_candidate s))]
  exact congrArg _ (settle_selectWaiting (f := fun t => keepByte next (t.timebase + gapLimit t.rate) b { t with rxHeld := false }) s
    (fun _ _ _ => rfl) rfl rfl rfl rfl rfl rfl)

/-- A byte that ends a frame in a discard is the same event under either name. -/
theorem exec_lenOutOfRange (hh : s.hardReset = none) (hrx : s.rx = .length) (h : b.toNat < 3 ∨ 250 < b.toNat) :
    exec (.frameDiscard (.lenOutOfRange b)) s = exec (.characterReceived b) s := by
  have hdue : discardDue (.lenOutOfRange b) (selectWaiting s) = true := by simpa [discardDue, hrx] using h
  show event _ s = event _ s
  rw [event_eq _ _ hh, event_eq _ _ hh, if_pos hdue]

theorem candidateLen_congr {s t : State} (h : t.candidate = s.candidate) : candidateLen t = candidateLen s := by
  simp only [candidateLen, h]

theorem exec_crcFailure (hh : s.hardReset = none) (hrx : s.rx = .check) (h : s.candidate.length = candidateLen s + 2)
    (hcrc : (s.candidate ++ [b]).drop (candidateLen s + 1) ≠ bytes16 (crc (s.candidate.take (candidateLen s + 1)))) :
    exec (.frameDiscard (.crcFailure b)) s = exec (.characterReceived b) s := by
  have hdue : discardDue (.crcFailure b) (selectWaiting s) = true := by
    simpa [discardDue, hrx, h, candidateLen_congr (selectWaiting_candidate s)] using hcrc
  show event _ s = event _ s
  rw [event_eq _ _ hh, event_eq _ _ hh, if_pos hdue]

end

theorem toHunt_of_hunt {u : State} (hrx : u.rx = .hunt) (hc : u.candidate = []) (hg : u.gapDue = none) : toHunt u = u := by
  unfold toHunt
  rw [← hrx, ← hc, ← hg]

theorem collected_of_lt {len : Byte} {kept : List Byte} (h : kept.length < len.toNat) : collected len kept = .body := if_pos h
theorem collected_of_ge {len : Byte} {kept : List Byte} (h : len.toNat ≤ kept.length) : collected len kept = .check := if_neg (by omega)

/-- A LEN out of range is no SYNC. -/
theorem ne_syncByte_of_bad_len {b : Byte} (h : b.toNat < 3 ∨ 250 < b.toNat) : syncByte ≠ b := by
  rintro rfl
  revert h
  decide

theorem exec_framingError {released : Bool} {s : State} (hh : s.hardReset = none) (hfit : charactersFit 1 s = true)
    (hr : released = true ∨ s.rxHeld = false) :
    exec (.frameDiscard (.framingError released)) s = .next (settle (framingError { selectWaiting s with rxHeld := true })) := by
  show event (takeFramingError released) s = _
  have hcond : (charactersFit 1 (selectWaiting s) && (released || !(selectWaiting s).rxHeld)) = true := by
    rcases hr with hr | hr <;> simp [hfit, hr]
  rw [event_eq _ _ hh, takeFramingError, if_pos hcond]

theorem framingError_of_hunt {s : State} (h : s.rx = .hunt) : framingError s = s := by
  unfold framingError
  rw [h]

theorem framingError_of_collecting {s : State} (h : s.rx ≠ .hunt) :
    framingError s = feed (s.gapDue.getD s.timebase) (s.candidate.length + 1) s.candidate (discarded s) := by
  unfold framingError
  split
  · next hrx => exact absurd hrx h
  · rfl

/-! R176: what FRAME_DISCARD does in each of its three forms, the rescan named. -/

theorem exec_frameDiscard_lenOutOfRange {b : Byte} {s : State} (hh : s.hardReset = none) (hfit : charactersFit 1 s = true)
    (hrx : s.rx = .length) (hc : s.candidate = []) (h : b.toNat < 3 ∨ 250 < b.toNat) :
    exec (.frameDiscard (.lenOutOfRange b)) s = .next (settle { discarded (selectWaiting s) with rxHeld := false }) := by
  rw [exec_lenOutOfRange hh hrx h, exec_character hh hfit,
    receiveByte_of_discard (takeByte_bad_len (s := { selectWaiting s with rxHeld := false }) (by simpa using hrx) h)]
  have hno : syncByte ∉ (selectWaiting s).candidate ++ [b] := by simpa [hc] using ne_syncByte_of_bad_len h
  rw [feed_no_sync rfl hno]
  rfl

theorem exec_frameDiscard_crcFailure {b : Byte} {s : State} (hh : s.hardReset = none) (hfit : charactersFit 1 s = true)
    (hrx : s.rx = .check) (h : s.candidate.length = candidateLen s + 2)
    (hcrc : (s.candidate ++ [b]).drop (candidateLen s + 1) ≠ bytes16 (crc (s.candidate.take (candidateLen s + 1)))) :
    exec (.frameDiscard (.crcFailure b)) s = .next (settle
      (feed (s.timebase + gapLimit s.rate) (s.candidate.length + 1) (s.candidate ++ [b])
        { discarded (selectWaiting s) with rxHeld := false })) := by
  rw [exec_crcFailure hh hrx h hcrc, exec_character hh hfit]
  have hcand := selectWaiting_candidate s
  have hlen := candidateLen_congr hcand
  rw [← hcand, ← hlen] at h hcrc
  rw [← selectWaiting_rx s] at hrx
  rw [← selectWaiting_timebase s, ← selectWaiting_rate s, ← hcand]
  generalize selectWaiting s = w at *
  exact congrArg (fun t => Host.Outcome.next (settle t))
    (receiveByte_of_discard (takeByte_bad_crc (s := { w with rxHeld := false }) hrx h hcrc))

theorem exec_frameDiscard_framingError {released : Bool} {s : State} (hh : s.hardReset = none) (hfit : charactersFit 1 s = true)
    (hr : released = true ∨ s.rxHeld = false) (hrx : s.rx ≠ .hunt) :
    exec (.frameDiscard (.framingError released)) s = .next (settle
      (feed (s.gapDue.getD s.timebase) (s.candidate.length + 1) s.candidate { discarded (selectWaiting s) with rxHeld := true })) := by
  rw [exec_framingError hh hfit hr, framingError_of_collecting (by simpa using hrx)]
  rw [← selectWaiting_timebase s, ← selectWaiting_gapDue s, ← selectWaiting_candidate s]
  rfl

/-- Settles O30. -/
theorem discardsAreCountedAndRescanned : Obligations.DiscardsAreCountedAndRescanned := by
  intro s hh w
  refine ⟨fun hfit => ⟨?_, ?_, ?_⟩, ?_, ?_, ?_⟩
  · intro b hrx hc h
    exact exec_frameDiscard_lenOutOfRange hh hfit hrx hc h
  · intro b hrx h hcrc
    have hexec := exec_frameDiscard_crcFailure hh hfit hrx h hcrc
    refine ⟨hexec, fun hno => ?_⟩
    rw [hexec, feed_no_sync rfl hno]
  · intro released hr
    refine ⟨fun hrx => ?_, fun hrx => ?_⟩
    · rw [exec_framingError hh hfit hr, framingError_of_hunt (by simpa using hrx)]
      exact congrArg _ (settle_selectWaiting (f := fun t => { t with rxHeld := true }) s (fun _ _ _ => rfl) rfl rfl rfl rfl rfl rfl)
    · have hexec := exec_frameDiscard_framingError hh hfit hr hrx
      refine ⟨hexec, fun hno => ?_⟩
      rw [hexec, feed_no_sync rfl hno]
  · intro hheld
    refine event_idle hh ?_
    rcases takeFramingError_cases false (selectWaiting s) with ⟨-, hr, -⟩ | ⟨-, h⟩
    · simp [hheld] at hr
    · exact h
  · intro hdue
    have hdue' : (selectWaiting s).gapDue = some (selectWaiting s).timebase := by simpa using hdue
    show event _ s = _
    rw [event_eq _ _ hh, if_pos hdue']
    rfl
  · intro due n dropped u hrx hc hg hd rescan opened
    refine ⟨feed_no_sync hrx hd, ?_, ?_, ?_, ?_, ?_⟩
    · exact (feed_opens hrx hd []).trans (feed_nil _ _ _)
    · intro len kept h3 h250
      refine ⟨fun hk => ?_, fun hk hk' => ?_⟩
      · exact (feed_begins hrx hd h3 h250 (by omega)).trans (by rw [collected_of_lt hk]; rfl)
      · exact (feed_begins hrx hd h3 h250 (by omega)).trans (by rw [collected_of_ge hk]; rfl)
    · intro body rest h3 h250
      exact (feed_handles hrx hd rest h3 h250).trans (by rw [toHunt_of_hunt hrx hc hg])
    · intro len rest h
      exact feed_bad_len hrx hd rest h
    · intro len c1 c0 body rest h3 h250 hlen h
      simpa using feed_bad_crc (due := due) (n := n) hrx hd rest h3 h250 hlen h

/-! ### Characters after a rate change (R172) -/

theorem bitsFit_iff (bits : Nat) (s : State) : bitsFit bits s = true ↔
    ∀ change, s.rateChange = some change → 980000 * bits ≤ bitRate s.rate * ((s.timebase - change.time).toNat + 1) := by
  rcases none_or_some s.rateChange with h | ⟨change, h⟩ <;> simp [bitsFit, h]

theorem bitsFit_of_change {bits : Nat} {s : State} {change : RateChange} (h : s.rateChange = some change) :
    bitsFit bits s = true ↔ 980000 * bits ≤ bitRate s.rate * ((s.timebase - change.time).toNat + 1) := by
  simp [bitsFit_iff, h]

@[simp] theorem bitsFit_selectWaiting (bits : Nat) (s : State) : bitsFit bits (selectWaiting s) = bitsFit bits s := by simp [bitsFit]

@[simp] theorem openAtChange_selectWaiting (body : List Byte) (s : State) : openAtChange body (selectWaiting s) = openAtChange body s := by
  simp [openAtChange]

theorem openAtChange_iff {body : List Byte} {s : State} {change : RateChange} (h : s.rateChange = some change) :
    openAtChange body s = true ↔
      3 ≤ body.length ∧ body.length ≤ 250 ∧ s.rx = .hunt ∧ bitsFit (10 * (body.length + 3)) s = false ∧ change.frameCounted = false := by
  simp [openAtChange, h, and_assoc]

theorem not_canComplete_of_late {body : List Byte} {s : State} (h : bitsFit (10 * (body.length + 4) - 1) s = false) :
    ¬ canComplete body s = true := by
  rw [canComplete_iff]
  rintro ⟨-, -, -, hfit⟩
  rw [charactersFit, h] at hfit
  cases hfit

theorem takeCharacter_of_fit {b : Byte} {s : State} (h : charactersFit 1 s = true) :
    takeCharacter b s = receiveByte b { s with rxHeld := false } := if_pos h

theorem takeCharacter_of_not_fit {b : Byte} {s : State} (h : ¬ charactersFit 1 s = true) : takeCharacter b s = s := if_neg h

theorem takeFramingError_of_not_fit {released : Bool} {s : State} (h : ¬ charactersFit 1 s = true) : takeFramingError released s = s := by
  rcases takeFramingError_cases released s with ⟨hfit, -⟩ | ⟨-, hs⟩
  · exact absurd hfit h
  · exact hs

/-- A whole frame: its last character ends it, and it is handled. -/
theorem exec_character_completes {b : Byte} {body : List Byte} {s : State} (hh : s.hardReset = none) (hfit : charactersFit 1 s = true)
    (hrx : s.rx = .check) (h250 : body.length ≤ 250) (hbody : s.candidate ++ [b] = frameTail body) :
    exec (.characterReceived b) s = .next (settle
      (soundFrame body { selectWaiting s with rx := .hunt, candidate := [], gapDue := none, rxHeld := false })) := by
  have hlen : body.length = (byteOf body.length).toNat := (byteOf_toNat (by omega)).symm
  obtain ⟨c1, c0, hcrc⟩ : ∃ c1 c0, bytes16 (crc (byteOf body.length :: body)) = [c1, c0] := ⟨_, _, rfl⟩
  have hsplit : s.candidate ++ [b] = (byteOf body.length :: body ++ [c1]) ++ [c0] := by
    rw [hbody, frameTail, hcrc, List.append_assoc]
    rfl
  obtain ⟨hc, hb⟩ := List.append_inj' hsplit rfl
  cases hb
  have htake := takeByte_completes (due := (selectWaiting s).timebase + gapLimit (selectWaiting s).rate) (c0 := b)
    (s := { selectWaiting s with rxHeld := false }) ((selectWaiting_rx s).trans hrx) ((selectWaiting_candidate s).trans hc) hlen
  rw [if_pos hcrc.symm] at htake
  rw [exec_character hh hfit, receiveByte_of_taken htake, settle_settle]
  rfl

/-- Settles O31. -/
theorem characterMovesTheReceiver : Obligations.CharacterMovesTheReceiver := by
  intro b s hh gap after
  refine ⟨fun n => bitsFit_iff _ s, ?_, fun hfit => ⟨?_, ?_, ?_, ?_, ?_, ?_, ?_, ?_, ?_⟩, ?_⟩
  · intro len rest hc
    simp only [candidateLen, hc]
  · rintro hrx rfl
    show exec (.characterReceived syncByte) s = _
    rw [exec_character hh hfit, receiveByte_of_taken (takeByte_sync (u := { selectWaiting s with rxHeld := false }) (by simpa using hrx))]
    exact congrArg _ (settle_selectWaiting
      (f := fun t => collecting (t.timebase + gapLimit t.rate) .length [] { t with rxHeld := false }) s
      (fun _ _ _ => rfl) rfl rfl rfl rfl rfl rfl)
  · intro hrx hb
    have hno : syncByte ∉ [b] := fun hmem => hb (List.mem_singleton.mp hmem).symm
    rw [exec_character hh hfit, receiveByte, feed_no_sync (by simpa using hrx) hno]
    exact congrArg _ (settle_selectWaiting (f := fun t => { t with rxHeld := false }) s (fun _ _ _ => rfl) rfl rfl rfl rfl rfl rfl)
  · intro hrx h3 h250
    exact exec_character_kept hh hfit (fun due t ht _ => takeByte_length (ht.trans hrx) h3 h250)
  · intro hrx h
    exact (exec_lenOutOfRange hh hrx h).symm
  · intro hrx h
    exact exec_character_kept hh hfit (fun due t ht hc => takeByte_body (ht.trans hrx) (by rwa [hc, candidateLen_congr hc]))
  · intro hrx h
    exact exec_character_kept hh hfit (fun due t ht hc => takeByte_last (ht.trans hrx) (by rwa [hc, candidateLen_congr hc]))
  · intro hrx h
    exact exec_character_kept hh hfit (fun due t ht hc => takeByte_check (ht.trans hrx) (by rwa [hc, candidateLen_congr hc]))
  · intro hrx h hcrc
    exact (exec_crcFailure hh hrx h hcrc).symm
  · intro body hrx _ h250 hbody
    exact exec_character_completes hh hfit hrx h250 hbody
  · intro change hchange elapsed
    refine ⟨fun hlate => ?_, ?_⟩
    · have hfit : ¬ charactersFit 1 (selectWaiting s) = true := by
        rw [charactersFit_selectWaiting, charactersFit, bitsFit_of_change hchange]
        exact Nat.not_le.mpr hlate
      exact ⟨event_idle hh (takeCharacter_of_not_fit hfit), fun released => event_idle hh (takeFramingError_of_not_fit hfit)⟩
    · intro tag code params hparams late
      let r : Request := { tag := tag, code := code, params := params }
      have hlength : (requestBody r).length = params.length + 3 := rfl
      have hfits : ∀ bits, bitsFit bits s = false ↔ late bits := fun bits => by
        rw [← Bool.not_eq_true, bitsFit_of_change hchange, Nat.not_le]
      have hcut : late (10 * (params.length + 7) - 1) → ¬ canComplete (requestBody r) (selectWaiting s) = true := fun hlate =>
        not_canComplete_of_late (by rw [bitsFit_selectWaiting, hlength]; exact (hfits _).mpr hlate)
      refine ⟨fun hlate hcounted hrx => ?_, fun hlate hnot => ?_⟩
      · have hopen : openAtChange (requestBody r) (selectWaiting s) = true := by
          rw [openAtChange_selectWaiting, openAtChange_iff hchange, hlength]
          exact ⟨by omega, by omega, hrx, (hfits _).mpr hlate, hcounted⟩
        have hlonger : late (10 * (params.length + 7) - 1) := by
          simp only [late] at hlate ⊢
          omega
        show event (deliver (requestBody r)) s = _
        rw [event_eq _ _ hh, deliver, if_neg (hcut hlonger), if_pos hopen]
        refine (congrArg _ (settle_selectWaiting (f := countAbandoned) s (fun _ _ _ => rfl) rfl rfl rfl rfl rfl rfl)).trans ?_
        rw [countAbandoned, countDiscard_eq, hchange]
        rfl
      · have hopen : ¬ openAtChange (requestBody r) (selectWaiting s) = true := by
          rw [openAtChange_selectWaiting, openAtChange_iff hchange, hlength, hfits]
          rintro ⟨-, -, hrx, hopen, hcounted⟩
          rcases hnot with h | h | h
          · exact h hopen
          · rw [hcounted] at h; cases h
          · exact h hrx
        refine event_idle hh ?_
        rw [deliver, if_neg (hcut hlate), if_neg hopen]

/-! ### A frame by its characters (R174) -/

theorem takeCharacter_collects {due : Time} {rx rx' : RxState} {b : Byte} {candidate candidate' : List Byte} {u : State}
    (hfit : charactersFit 1 u = true) (hheld : u.rxHeld = false) (hdue : due = u.timebase + gapLimit u.rate)
    (h : takeByte due b (collecting due rx candidate u) = (collecting due rx' candidate' u, none)) :
    takeCharacter b (collecting due rx candidate u) = collecting due rx' candidate' u := by
  subst hdue
  have hsame : { collecting (u.timebase + gapLimit u.rate) rx candidate u with rxHeld := false } =
      collecting (u.timebase + gapLimit u.rate) rx candidate u := by rw [← hheld]; rfl
  refine (takeCharacter_of_fit (s := collecting (u.timebase + gapLimit u.rate) rx candidate u) hfit).trans ?_
  rw [hsame]
  exact receiveByte_of_taken h

theorem foldl_takeCharacter_collects {due : Time} {len : Byte} {u : State} (hfit : charactersFit 1 u = true) (hheld : u.rxHeld = false)
    (hdue : due = u.timebase + gapLimit u.rate) (h3 : 3 ≤ len.toNat) (h250 : len.toNat ≤ 250) (kept : List Byte)
    (h : kept.length ≤ len.toNat + 1) :
    (len :: kept).foldl (fun s b => takeCharacter b s) (collecting due .length [] u) = collecting due (collected len kept) (len :: kept) u := by
  induction kept using List.reverseRecOn with
  | nil => exact takeCharacter_collects hfit hheld hdue (takeByte_len h3 h250)
  | append_singleton kept b ih =>
    rw [List.length_append, List.length_singleton] at h
    rw [← List.cons_append, List.foldl_append, ih (by omega)]
    exact takeCharacter_collects hfit hheld hdue (takeByte_collected (by omega))

/-- Settles O32. -/
theorem frameIsReceivedByItsCharacters : Obligations.FrameIsReceivedByItsCharacters := by
  intro body s h3 h250 hrx hc hg hfit
  let u : State := { s with rxHeld := false }
  let due : Time := u.timebase + gapLimit u.rate
  have hfit' : charactersFit 1 u = true := hfit
  have hlen : body.length = (byteOf body.length).toNat := (byteOf_toNat (by omega)).symm
  obtain ⟨c1, c0, hcrc⟩ : ∃ c1 c0, bytes16 (crc (byteOf body.length :: body)) = [c1, c0] := ⟨_, _, rfl⟩
  have htail : frameTail body = (byteOf body.length :: (body ++ [c1])) ++ [c0] := by
    rw [frameTail, hcrc]
    simp
  have hsync : takeCharacter syncByte s = collecting due .length [] u := by
    rw [takeCharacter_of_fit hfit]
    exact receiveByte_of_taken (takeByte_sync (u := u) hrx)
  have hcheck : collected (byteOf body.length) (body ++ [c1]) = .check := collected_of_ge (by simp [← hlen])
  have hcollect := foldl_takeCharacter_collects (due := due) (len := byteOf body.length) hfit' rfl rfl (by omega) (by omega) (body ++ [c1])
    (by simp [← hlen])
  let v : State := collecting due .check (byteOf body.length :: (body ++ [c1])) u
  have hlast := takeByte_completes (due := due) (c0 := c0) (s := v) rfl rfl hlen
  rw [if_pos hcrc.symm] at hlast
  rw [List.foldl_cons, hsync, htail, List.foldl_append, hcollect, hcheck]
  refine (takeCharacter_of_fit (s := v) hfit').trans ((receiveByte_of_taken (s := v) hlast).trans ?_)
  rw [show toHunt v = toHunt u from rfl, toHunt_of_hunt (u := u) hrx hc hg]

/-! ### The bound on a rescan (log 18) -/

@[simp] theorem takeHead_rx (s : State) : (takeHead s).rx = s.rx := by
  rcases takeHead_cases s with ⟨-, r, rest, -, h⟩ | ⟨-, h⟩ <;> rw [h]
  exact (answer_frame r _).rx

@[simp] theorem selectNext_rx (s : State) : (selectNext s).rx = s.rx := by simp [selectNext]

@[simp] theorem takeWaiting_rx (n : Nat) (s : State) : (takeWaiting n s).rx = s.rx := by
  induction n generalizing s with
  | zero => rfl
  | succ n ih =>
    unfold takeWaiting
    split
    · rw [ih]; simp
    · rfl

@[simp] theorem settle_rx (s : State) : (settle s).rx = s.rx := by simp [settle]

@[simp] theorem screen_rx (r : Request) (s : State) : (screen r s).rx = s.rx := by
  unfold screen
  repeat' split
  all_goals simp

@[simp] theorem handleFrame_rx (body : List Byte) (s : State) : (handleFrame body s).rx = s.rx := by
  unfold handleFrame takeAck
  repeat' split
  all_goals simp

@[simp] theorem soundFrame_rx (body : List Byte) (s : State) : (soundFrame body s).rx = s.rx := by
  rw [soundFrame, handleFrame_rx, restartSilence]
  split <;> rfl

/-- The bytes a discard gives back before the one that brings it: none in HUNT, else what has been taken after SYNC, and one. -/
def held (s : State) : Nat := if s.rx = .hunt then 0 else s.candidate.length + 1

theorem held_of_hunt {s : State} (h : s.rx = .hunt) : held s = 0 := if_pos h
theorem held_of_collecting {s : State} (h : s.rx ≠ .hunt) : held s = s.candidate.length + 1 := if_neg h
theorem held_keepByte {next : RxState} {due : Time} {b : Byte} {s : State} (h : s.rx ≠ .hunt) (hnext : next ≠ .hunt) :
    held (keepByte next due b s) = held s + 1 := by
  rw [held_of_collecting h, held_of_collecting hnext]
  simp [keepByte]

/-- A byte either adds at most itself to what a discard gives back, or brings the discard and gives back no more than stood there. -/
theorem takeByte_held (due : Time) (b : Byte) (s : State) :
    ((takeByte due b s).2 = none ∧ held (takeByte due b s).1 ≤ held s + 1) ∨
    (∃ again, (takeByte due b s).2 = some again ∧ again.length = held s ∧ (takeByte due b s).1.rx = .hunt) := by
  have hdiscard : s.rx ≠ .hunt → (s.candidate ++ [b]).length = held s := fun h => by
    rw [held_of_collecting h, List.length_append, List.length_singleton]
  unfold takeByte
  cases hrx : s.rx with
  | hunt =>
    dsimp only
    split
    · exact .inl ⟨rfl, by rw [held_of_collecting (by simp)]; simp⟩
    · exact .inl ⟨rfl, Nat.le_succ _⟩
  | length =>
    dsimp only
    split
    · exact .inl ⟨rfl, (held_keepByte (by simp [hrx]) (by simp)).le⟩
    · exact .inr ⟨_, rfl, hdiscard (by simp [hrx]), rfl⟩
  | body =>
    dsimp only
    split <;> exact .inl ⟨rfl, (held_keepByte (by simp [hrx]) (by simp)).le⟩
  | check =>
    dsimp only
    split
    · exact .inl ⟨rfl, (held_keepByte (by simp [hrx]) (by simp)).le⟩
    · unfold completeFrame
      dsimp only
      split
      · refine .inl ⟨rfl, ?_⟩
        rw [held_of_hunt (by simp [toHunt])]
        omega
      · exact .inr ⟨_, rfl, hdiscard (by simp [hrx]), rfl⟩

/-- A run of bytes that ends in a discard leaves fewer bytes to take again than stood there, from HUNT. -/
theorem takeBytes_held {due : Time} {bytes again : List Byte} {s t : State} (h : takeBytes due bytes s = (t, some again)) :
    again.length < held s + bytes.length ∧ t.rx = .hunt := by
  induction bytes generalizing s with
  | nil => cases h
  | cons b rest ih =>
    have hb := takeByte_held due b s
    rcases hx : takeByte due b s with ⟨s', _ | more⟩ <;> simp only [takeBytes, hx] at h hb
    · obtain ⟨-, hle⟩ | ⟨_, habs, -⟩ := hb
      · obtain ⟨hlt, ht⟩ := ih h
        exact ⟨by rw [List.length_cons]; omega, ht⟩
      · cases habs
    · obtain ⟨habs, -⟩ | ⟨_, heq, hlen, ht⟩ := hb
      · cases habs
      · cases heq
        cases h
        exact ⟨by rw [List.length_append, List.length_cons]; omega, ht⟩

theorem feed_fuel {due : Time} (k : Nat) {fuel : Nat} {bytes : List Byte} {s : State} (h : held s + bytes.length ≤ fuel) :
    feed due (fuel + k) bytes s = feed due fuel bytes s := by
  induction fuel generalizing bytes s with
  | zero =>
    have hnil : bytes = [] := List.eq_nil_of_length_eq_zero (by omega)
    rw [hnil, feed_nil, feed_nil]
  | succ fuel ih =>
    rw [Nat.add_right_comm, feed, feed]
    rcases hx : takeBytes due bytes s with ⟨t, _ | again⟩
    · rfl
    · obtain ⟨hlt, ht⟩ := takeBytes_held hx
      exact ih (by rw [held_of_hunt ht]; omega)

/-- Settles O33. -/
theorem rescanRunsOut : Obligations.RescanRunsOut := by
  intro due k s _
  refine ⟨fun b => feed_fuel k ?_, fun _ => feed_fuel k ?_⟩
  · rw [List.length_singleton, held]
    split <;> omega
  · rw [held_of_hunt rfl]
    omega

/-! ### Frames of no use, and acknowledgements (R38, R39, R175) -/

theorem deliver_sound {body : List Byte} {s : State} (h : canComplete body s = true) : deliver body s = handleFrame body (heard s) := by
  rw [deliver, if_pos h, soundFrame, restartSilence_heard]

theorem settle_heard_selectWaiting {f : State → State} (s : State)
    (hf : ∀ u tx replies notices, f { u with tx := tx, replyQueue := replies, notices := notices } =
      { f u with tx := tx, replyQueue := replies, notices := notices })
    (ht : ∀ u, (f u).tx = u.tx) (hr : ∀ u, (f u).replyQueue = u.replyQueue) (hn : ∀ u, (f u).notices = u.notices)
    (hh : ∀ u, (f u).hardReset = u.hardReset) (hb : ∀ u, (f u).timebase = u.timebase) (hl : ∀ u, (f u).rate = u.rate) :
    settle (f (heard (selectWaiting s))) = settle (f (heard s)) :=
  settle_selectWaiting (f := fun t => f (heard t)) s (fun tx r n => hf (heard s) tx r n) (ht _) (hr _) (hn _) (hh _) (hb _) (hl _)

theorem handleFrame_ack_of_length {rest : List Byte} (h : rest.length ≠ 3) (s : State) : handleFrame (0x52 :: rest) s = countDiscard s := by
  simp only [handleFrame]
  rw [if_neg (by decide), if_pos trivial]
  split
  · exact absurd rfl h
  · rfl

theorem handleFrame_unknown {type : Byte} (h51 : type ≠ 0x51) (h52 : type ≠ 0x52) (rest : List Byte) (s : State) :
    handleFrame (type :: rest) s = countDiscard s := by
  simp only [handleFrame]
  rw [if_neg h51, if_neg h52]

/-- Settles O29. -/
theorem soundFramesOfNoUseAreCounted : Obligations.SoundFramesOfNoUseAreCounted := by
  intro s hh counted
  have hcounted : counted = .next (settle (countDiscard (heard (selectWaiting s)))) :=
    congrArg _ (settle_heard_selectWaiting (f := countDiscard) s (fun _ _ _ _ => rfl) (fun _ => rfl) (fun _ => rfl) (fun _ => rfl)
      (fun _ => rfl) (fun _ => rfl) (fun _ => rfl)).symm
  refine ⟨fun rest hlen hc => ?_, fun type rest h51 h52 hc => ?_⟩
  · show event (fun t => if rest.length = 3 then t else deliver (0x52 :: rest) t) s = _
    rw [event_eq _ _ hh, if_neg hlen, deliver_sound (by simpa using hc), handleFrame_ack_of_length hlen, hcounted]
  · have hknown : ¬ (type = 0x51 ∨ type = 0x52) := fun h => h.elim h51 h52
    show event (fun t => if type = 0x51 ∨ type = 0x52 then t else deliver (type :: rest) t) s = _
    rw [event_eq _ _ hh, if_neg hknown, deliver_sound (by simpa using hc), handleFrame_unknown h51 h52, hcounted]

theorem acceptsAck_iff {session : Byte} {c : Cls} {seq : Byte} {s : State} :
    acceptsAck session c seq s = true ↔
      (s.link = .up ∨ ∃ w, s.link = .quiet w) ∧ session = s.session ∧ ∃ f, (classAt s c).frame = some f ∧ f.seq = seq := by
  rcases none_or_some (classAt s c).frame with hf | ⟨f, hf⟩ <;> cases hl : s.link <;> simp [acceptsAck, hf, hl]

theorem exec_ack {session cls seq : Byte} {s : State} (hh : s.hardReset = none) (hc : canComplete [0x52, session, cls, seq] s = true) :
    exec (.ack session cls seq) s = .next (settle (takeAck session cls seq (heard (selectWaiting s)))) := by
  show event _ s = _
  rw [event_eq _ _ hh, deliver_sound (by simpa using hc)]
  rfl

/-- Settles O28. -/
theorem ackFreesTheFrameItNames : Obligations.AckFreesTheFrameItNames := by
  intro session cls seq s hh hc
  have hclass : ∀ c : Cls, classAt (heard (selectWaiting s)) c = classAt s c := fun c =>
    congrArg (fun cs => Vector.get cs c) (selectWaiting_classes s)
  have hlink : (heard (selectWaiting s)).link = s.link := selectWaiting_link s
  have hsession : (heard (selectWaiting s)).session = s.session := selectWaiting_session s
  refine ⟨fun c f hcls hup hses hframe hseq => ?_, fun hnot => ?_⟩
  · have hindex : indexOf 4 cls = some c := by rw [hcls]; exact indexOf_byteOf 4 (by omega) c
    have haccept : acceptsAck session c seq (heard (selectWaiting s)) = true :=
      acceptsAck_iff.mpr ⟨hlink ▸ hup, hsession ▸ hses, f, by rw [hclass]; exact hframe, hseq⟩
    rw [exec_ack hh hc, takeAck, hindex]
    dsimp only
    rw [if_pos haccept]
    exact congrArg _ (settle_heard_selectWaiting (f := fun u => setClass c (freeFrame (classAt u c)) u) s (fun _ _ _ _ => rfl)
      (fun _ => rfl) (fun _ => rfl) (fun _ => rfl) (fun _ => rfl) (fun _ => rfl) (fun _ => rfl))
  · have hnone : takeAck session cls seq (heard (selectWaiting s)) = heard (selectWaiting s) := by
      unfold takeAck
      split
      · next c hindex =>
        refine if_neg fun haccept => ?_
        obtain ⟨hup, hses, f, hframe, hseq⟩ := acceptsAck_iff.mp haccept
        rw [hlink] at hup
        rw [hsession] at hses
        rw [hclass] at hframe
        obtain ⟨hval, hcls⟩ := indexOf_some hindex
        rcases hnot with h | h | h | h | ⟨c', hc', h⟩
        · simp [h] at hup
        · simp [h] at hup
        · exact h hses
        · omega
        · have hsame : c = c' := Option.some.inj (hindex.symm.trans (hc' ▸ indexOf_byteOf 4 (by omega) c'))
          exact h f (hsame ▸ hframe) hseq
      · rfl
    rw [exec_ack hh hc, hnone]
    exact congrArg _ (settle_heard_selectWaiting (f := id) s (fun _ _ _ _ => rfl) (fun _ => rfl) (fun _ => rfl) (fun _ => rfl)
      (fun _ => rfl) (fun _ => rfl) (fun _ => rfl))

end Sys2Proof.Machine
end

section
/-! SUPPORT. Offers, the Transmit Arbiter and the hard reset (R1, R2, R10 to R12, R16, R29 to R35, R42, R152, R170). -/

namespace Sys2Proof.Machine

open Sys2Proof

/-! ### Offers (R10 to R12) -/

/-- R10, in the statement's terms. -/
theorem admits_iff_room (c : Cls) (s : State) :
    admits c s = true ↔ occupancy (classAt s c) < (classAt s c).limit.toNat ∧
      (c = 0 → 0 < 128 - storedCount s) ∧ (c ≠ 0 → s.reserve.toNat < 128 - storedCount s) := by
  have hfree : freeCount s = 128 - storedCount s := rfl
  rw [admits_iff, hfree]
  by_cases hc : c = 0 <;> simp [hc]

/-- Settles O48. -/
theorem offersAreAdmittedOrCounted : Obligations.OffersAreAdmittedOrCounted := by
  refine ⟨fun x => ⟨?_, rfl⟩, fun _ => rfl, fun c o s => ?_⟩
  · rcases none_or_some x.frame with h | ⟨f, h⟩ <;> simp [inFlight, h]
  · intro x room
    have hroom : room ↔ admits c s = true := (admits_iff_room c s).symm
    rcases offer_cases c o s with ⟨hadmit, h⟩ | ⟨hrefuse, h⟩
    · exact ⟨fun _ => h, fun hno => absurd (hroom.mpr hadmit) hno⟩
    · exact ⟨fun hyes => absurd (hroom.mp hyes) (by simp [hrefuse]), fun _ => h⟩

/-! ### Readiness and the classes (R29, R31, R33) -/

theorem ready_iff (c : Cls) (s : State) : ready c s = true ↔
    s.link = .up ∧ (classAt s c).frame = none ∧ ∃ oldest younger, (classAt s c).unsent = oldest :: younger ∧
      ((classAt s c).batchMin.toNat ≤ younger.length + 1 ∨ oldest.aged = true ∨
        (classAt s c).batchHold.toNat * 1000 ≤ (s.timebase - oldest.admittedAt).toNat) := by
  rcases nil_or_cons (classAt s c).unsent with hu | ⟨oldest, younger, hu⟩ <;> simp [ready, hasWaited, hu, and_assoc]

theorem offersFrame_iff (c : Cls) (s : State) : offersFrame c s = true ↔
    ready c s = true ∨ (s.link = .up ∧ ∃ f, (classAt s c).frame = some f ∧ f.state = .resend) := by
  rcases none_or_some (classAt s c).frame with hf | ⟨f, hf⟩ <;> simp [offersFrame, inResend, hf]

theorem offersFrame_of_not_up {c : Cls} {s : State} (h : s.link ≠ .up) : offersFrame c s = false := by
  by_contra ho
  exact h (offersFrame_cases (by simpa using ho)).1

/-- The class the arbiter takes is the first that offers a frame. -/
theorem offeringClass_eq_some {c : Cls} {s : State} (h : offersFrame c s = true) (hlower : ∀ c' : Cls, c' < c → offersFrame c' s = false) :
    offeringClass s = some c := by
  obtain ⟨d, hd⟩ := Option.isSome_iff_exists.mp ((offeringClass_isSome s).mpr ⟨c, h⟩)
  obtain ⟨hoffer, hfirst⟩ := offeringClass_some hd
  rcases lt_trichotomy d c with hlt | heq | hgt
  · rw [hlower d hlt] at hoffer; cases hoffer
  · rw [hd, heq]
  · rw [hfirst c hgt] at h; cases h

theorem offeringClass_eq_none {s : State} (h : ∀ c : Cls, offersFrame c s = false) : offeringClass s = none := by
  by_contra hsome
  obtain ⟨c, hc⟩ := (offeringClass_isSome s).mp (Option.isSome_iff_ne_none.mpr hsome)
  rw [h c] at hc; cases hc

/-! ### Selection (R33, R35, R42) -/

/-- With nothing waiting and no class offering a frame nothing is selected. -/
theorem arbitrate_none {s : State} (hr : s.replyQueue = []) (hn : s.notices = []) (h : ∀ c : Cls, offersFrame c s = false) :
    arbitrate s = s := by
  rcases arbitrate_cases s with he | ⟨-, -, r, rest, hq, -⟩ | ⟨-, -, -, n, rest, hq, -⟩ | ⟨-, -, -, -, c, hc, -⟩
  · exact he
  · rw [hr] at hq; cases hq
  · rw [hn] at hq; cases hq
  · rw [offeringClass_eq_none h] at hc; cases hc

section
variable {c : Cls} {s : State}

/-- A waiting retransmission goes out as it was built. -/
theorem arbitrate_resend (hh : s.hardReset = none) (ht : s.tx = none) (hr : s.replyQueue = []) (hn : s.notices = [])
    (hup : s.link = .up) (hlower : ∀ c' : Cls, c' < c → offersFrame c' s = false) {f : InFlight} (hf : (classAt s c).frame = some f)
    (hresend : f.state = .resend) :
    arbitrate s = { s with
      classes := s.classes.set c { classAt s c with frame := some { f with state := .sending } }
      tx := beginning (.report s.session c f.seq f.records) s } := by
  have hoffer : offersFrame c s = true := (offersFrame_iff c s).mpr (.inr ⟨hup, f, hf, hresend⟩)
  rw [arbitrate_class s ht hh hr hn, offeringClass_eq_some hoffer hlower]
  exact sendReport_resend s c f hf hresend

/-- A class that is ready has its frame built from its oldest records. -/
theorem arbitrate_build (hh : s.hardReset = none) (ht : s.tx = none) (hr : s.replyQueue = []) (hn : s.notices = [])
    (hlower : ∀ c' : Cls, c' < c → offersFrame c' s = false) (hready : ready c s = true) :
    arbitrate s = { s with
      classes := s.classes.set c { classAt s c with
        unsent := (classAt s c).unsent.drop (min (classAt s c).unsent.length (classAt s c).frameMax.toNat)
        nextSeq := (classAt s c).nextSeq + 1, retryCount := 0
        frame := some { seq := (classAt s c).nextSeq
                        records := (classAt s c).unsent.take (min (classAt s c).unsent.length (classAt s c).frameMax.toNat)
                        state := .sending } }
      tx := beginning (.report s.session c (classAt s c).nextSeq
        ((classAt s c).unsent.take (min (classAt s c).unsent.length (classAt s c).frameMax.toNat))) s } := by
  have hoffer : offersFrame c s = true := (offersFrame_iff c s).mpr (.inl hready)
  rw [arbitrate_class s ht hh hr hn, offeringClass_eq_some hoffer hlower]
  exact sendReport_build s c ((ready_iff c s).mp hready).2.1

end

/-- R170, logs 6 and 7: the figures of each rate. -/
theorem rate_figures : ∀ rate : RateCode,
    bitRate rate = (#v[9600, 19200, 38400, 57600, 115200, 230400, 460800, 921600] : Vector Nat 8)[rate] ∧
    charHundredths rate = (#v[104170, 52080, 26040, 17360, 8680, 4340, 2170, 1085] : Vector Nat 8)[rate] ∧
    998 * 1000000000 ≤ 1000 * (charHundredths rate * bitRate rate) ∧ 1000 * (charHundredths rate * bitRate rate) ≤ 1002 * 1000000000 ∧
    gapLimit rate = (#v[10417, 5208, 2604, 1736, 868, 434, 217, 109] : Vector Time 8)[rate] := by
  decide

/-- Settles O49. -/
theorem arbiterTakesRepliesThenNoticesThenClasses : Obligations.ArbiterTakesRepliesThenNoticesThenClasses := by
  refine ⟨fun c s => ⟨ready_iff c s, offersFrame_iff c s⟩, ?_, fun s => ⟨fun hr hn => ?_, fun hw => ?_⟩, fun s hh => ⟨?_, ?_, ?_, ?_, ?_, ?_⟩⟩
  · intro rate f nominal character
    obtain ⟨hbit, hchar, hlow, hhigh, hgap⟩ := rate_figures rate
    rw [hchar, hbit] at hlow hhigh
    refine ⟨hbit, hchar, hlow, hhigh, hgap, ?_⟩
    rw [frameTime, hchar]
    rfl
  · simp [selectWaiting, hr, hn]
  · unfold selectWaiting
    refine if_neg fun hboth => ?_
    simp only [Bool.and_eq_true, List.isEmpty_iff] at hboth
    obtain ⟨hr, hn⟩ := hboth
    exact hw.elim (fun h => h hr) (fun h => h hn)
  · intro hbusy
    obtain ⟨x, hx⟩ := Option.ne_none_iff_exists'.mp hbusy
    exact arbitrate_busy s x hx
  · intro r rest ht hq
    exact arbitrate_reply s r rest ht hh hq
  · intro n rest ht hr hq
    exact arbitrate_notice s n rest ht hh hr hq
  · intro hr hn hlink
    exact arbitrate_none hr hn fun c => offersFrame_of_not_up hlink
  · exact fun hr hn h => arbitrate_none hr hn h
  · intro c ht hr hn hup hlower x
    exact ⟨fun f hf hresend => arbitrate_resend hh ht hr hn hup hlower hf hresend,
      fun _ hready => arbitrate_build hh ht hr hn hlower hready⟩

/-! ### The report of a class (R29, R35) -/

/-- With nothing waiting nothing is selected before an event. -/
theorem selectWaiting_empty {s : State} (hr : s.replyQueue = []) (hn : s.notices = []) : selectWaiting s = s := by
  simp [selectWaiting, hr, hn]

theorem attnLevel_up {s : State} (h : s.link = .up) : attnLevel s = false := by
  simp only [attnLevel, h, ite_self]

/-- Settles O45. -/
theorem batchHoldBuildsAReport : Obligations.BatchHoldBuildsAReport := by
  intro c oldest younger s hh ht hr hn hup hframe hunsent htake x k due
  have hready : ready c s = true ↔ due := by
    rw [ready_iff]
    constructor
    · rintro ⟨-, -, o, y, hoy, h⟩
      obtain ⟨rfl, rfl⟩ := List.cons.inj (hunsent.symm.trans hoy)
      exact h
    · exact fun h => ⟨hup, hframe, oldest, younger, hunsent, h⟩
  have hexec : exec (.batchHoldReached c) s = .next (settle (if ready c s then arbitrate s else s)) := by
    show event _ s = _
    rw [event_eq _ _ hh, selectWaiting_empty hr hn]
  refine ⟨fun hdue hlower => ?_, fun hnot hother => ?_⟩
  · have hbuild := arbitrate_build hh ht hr hn hlower (hready.mpr hdue)
    rw [hexec, if_pos (hready.mpr hdue), hbuild, settle_stop, selectNext_busy _ _ rfl, driveAttn, attnLevel_up (by exact hup)]
    rw [selectNext_busy _ _ rfl]
    exact htake
  · have hnotReady : ¬ ready c s = true := fun h => hnot (hready.mp h)
    have hnone : arbitrate s = s := by
      refine arbitrate_none hr hn fun c' => ?_
      by_cases hc : c' = c
      · subst hc
        refine Bool.eq_false_iff.mpr fun ho => ?_
        rcases (offersFrame_iff _ s).mp ho with h | ⟨-, f, hf, -⟩
        · exact hnotReady h
        · rw [hframe] at hf; cases hf
      · exact hother c' hc
    have hselect : selectNext s = { s with attn := false } := by
      rw [selectNext_eq, hnone, attnLevel_up hup]
    rw [hexec, if_neg hnotReady, settle_stop _ (by rw [hselect]; exact htake), hselect]

/-! ### Hard reset (R152) -/

/-- With one notice waiting, no request, and the transmitter IDLE, an event ends with the notice on TXD. -/
theorem settle_notice {s : State} {n : Notice} (ht : s.tx = none) (hh : s.hardReset = none) (hr : s.replyQueue = []) (hn : s.notices = [n])
    (hq : s.requestQueue = []) :
    settle s = { s with notices := [], tx := beginning (.notice n) s, attn := attnLevel s } := by
  rw [settle_nil _ hq, selectNext_notice s n [] ht hh hr hn]
  rfl

theorem beginning_at_zero {f : TxFrame} {s : State} (h : s.timebase = 0) : beginning f s = some { frame := f, ends := frameTime s.rate f } := by
  rw [beginning, h, show (0 : Time) + frameTime s.rate f = frameTime s.rate f from BitVec.zero_add _]

/-- Settles O47. -/
theorem hardResetHoldsAndReleases : Obligations.HardResetHoldsAndReleases := by
  intro s defaults
  refine ⟨rfl, rfl, fun c cause hcause h1 h2 h3 => ?_, fun cause hcause => ?_⟩
  · obtain ⟨f, hf⟩ := exec_eq_event c h1 h2 h3
    rw [hf, event_hardReset f s cause hcause]
  · intro boot
    have hboot : boot = bootNotice cause := by cases cause <;> rfl
    have hexec : exec .resetRelease s = .next (settle { hardDefaults s with notices := [bootNotice cause] }) := by
      simp only [exec, execResetRelease, hcause]
    rw [hexec, settle_notice rfl rfl rfl rfl rfl, hboot, beginning_at_zero rfl]
    rfl

end Sys2Proof.Machine
end

section
/-! SUPPORT. Frames on TXD: their bytes, their end, and what the end of a reply starts (R32, R34, R37, R148 to R151, R162, R171 to R173, R180,
R181). -/

namespace Sys2Proof.Machine

open Sys2Proof

/-! ### Fields and the CRC (R173, R180) -/

theorem crcShift_eq (v : Word16) : crcShift v = if v.getLsbD 15 then (v <<< 1) ^^^ 0x1021 else v <<< 1 := by
  rw [crcShift, BitVec.msb_eq_getLsbD_last]
  rfl

theorem append_zero_eq_shift (b : Byte) : b ++ 0#8 = b.setWidth 16 <<< 8 := by
  apply BitVec.eq_of_toNat_eq
  have hb := b.isLt
  simp only [BitVec.toNat_append, BitVec.toNat_shiftLeft, BitVec.toNat_setWidth, Nat.shiftLeft_eq]
  simp
  omega

theorem crcByte_eq (v : Word16) (b : Byte) : crcByte v b =
    (List.range 8).foldl (fun v _ => if v.getLsbD 15 then (v <<< 1) ^^^ 0x1021 else v <<< 1) (v ^^^ (b.setWidth 16 <<< 8)) := by
  have hshift : (fun (v : Word16) (_ : Nat) => if v.getLsbD 15 then (v <<< 1) ^^^ 0x1021 else v <<< 1) = fun v _ => crcShift v :=
    funext fun v => funext fun _ => (crcShift_eq v).symm
  rw [hshift, ← append_zero_eq_shift]
  rfl

theorem crc_append (bytes : List Byte) (b : Byte) : crc (bytes ++ [b]) = crcByte (crc bytes) b := by
  rw [crc, List.foldl_append]
  rfl

theorem bytes16_eq (x : Word16) : bytes16 x = [byteOf (x.toNat / 256), byteOf (x.toNat % 256)] := by
  simp only [bytes16, byteOf, List.cons.injEq, and_true]
  constructor <;> apply BitVec.eq_of_toNat_eq <;> simp [BitVec.extractLsb'_toNat, Nat.shiftRight_eq_div_pow]

theorem bytes24_eq (y : Word24) :
    bytes24 y = [byteOf (y.toNat / 65536), byteOf (y.toNat / 256 % 256), byteOf (y.toNat % 256)] := by
  simp only [bytes24, byteOf, List.cons.injEq, and_true]
  refine ⟨?_, ?_, ?_⟩ <;> apply BitVec.eq_of_toNat_eq <;> simp [BitVec.extractLsb'_toNat, Nat.shiftRight_eq_div_pow]

theorem bytes32_eq (z : Time) :
    bytes32 z = [byteOf (z.toNat / 16777216), byteOf (z.toNat / 65536 % 256), byteOf (z.toNat / 256 % 256), byteOf (z.toNat % 256)] := by
  simp only [bytes32, byteOf, List.cons.injEq, and_true]
  refine ⟨?_, ?_, ?_, ?_⟩ <;> apply BitVec.eq_of_toNat_eq <;> simp [BitVec.extractLsb'_toNat, Nat.shiftRight_eq_div_pow]

/-! ### Records and reports (R180, R181) -/

/-- A record whose kind has these fields: flags and source, number, timestamp, the extra bytes, and the losses before it. -/
def recordLayout (r : Record) (code e o : Nat) (extra : List Byte) : List Byte :=
  [byteOf (16 * code + (if r.lostBefore = none then 0 else 1) + 2 * e + 4 * o), byteOf r.content.source.val] ++ bytes16 r.number ++
    bytes32 r.content.timestamp ++ extra ++ (r.lostBefore.map bytes16).getD []

theorem recordBytes_eq {r : Record} {code : Nat} {e o : Bool} {extra : List Byte} (h : kindFields r.content.kind = (code, e, o, extra)) :
    recordBytes r = recordLayout r code e.toNat o.toNat extra := by
  have hflags : ∀ l : Nat, 16 * code + (l + (if e then 2 else 0) + (if o then 4 else 0)) = 16 * code + l + 2 * e.toNat + 4 * o.toNat :=
    fun l => by cases e <;> cases o <;> simp only [Bool.toNat_true, Bool.toNat_false, if_true, Bool.false_eq_true, if_false] <;> omega
  have hlost : (if r.lostBefore.isSome then 1 else 0) = (if r.lostBefore = none then 0 else 1) := by
    cases r.lostBefore <;> rfl
  simp only [recordBytes, h, recordLayout, hflags, hlost]
  cases r.lostBefore <;> rfl

theorem recordBytes_length (r : Record) : 8 ≤ (recordBytes r).length ∧ (recordBytes r).length ≤ 13 := by
  rcases none_or_some r.lostBefore with hl | ⟨n, hl⟩ <;> cases hk : r.content.kind <;>
    simp [recordBytes, kindFields, hk, hl, bytes16, bytes24, bytes32]

theorem records_length (records : List Record) :
    8 * records.length ≤ (records.map recordBytes).flatten.length ∧ (records.map recordBytes).flatten.length ≤ 13 * records.length := by
  induction records with
  | nil => simp
  | cons r records ih =>
    obtain ⟨hlow, hhigh⟩ := recordBytes_length r
    simp only [List.map_cons, List.flatten_cons, List.length_append, List.length_cons]
    omega

theorem report_length (session : Byte) (c : Cls) (seq : Byte) (records : List Record) :
    (txBody (.report session c seq records)).length = 5 + (records.map recordBytes).flatten.length := by
  simp only [txBody, List.length_append]
  rfl

/-! ### The end of a frame (R32, R37, R162) -/

section
variable {s : State} {x : Sending}

/-- With the transmitter BUSY nothing is selected before an event. -/
theorem selectWaiting_busy (h : s.tx = some x) : selectWaiting s = s := by
  rcases selectWaiting_cases s with ⟨he, -⟩ | ⟨ht, -⟩ | ⟨ht, -⟩
  · exact he
  · rw [h] at ht; cases ht
  · rw [h] at ht; cases ht

theorem exec_frameTransmitEnd (hh : s.hardReset = none) (ht : s.tx = some x) :
    exec .frameTransmitEnd s = .next (settle (frameSent s)) := by
  show event frameSent s = _
  rw [event_eq _ _ hh, selectWaiting_busy ht]

theorem frameSent_reply {r : Reply} (ht : s.tx = some x) (hx : x.frame = .reply r) : frameSent s = replySent r { s with tx := none } := by
  simp only [frameSent, ht, hx]

theorem frameSent_notice {n : Notice} (ht : s.tx = some x) (hx : x.frame = .notice n) : frameSent s = { s with tx := none } := by
  simp only [frameSent, ht, hx]

theorem frameSent_report {session seq : Byte} {c : Cls} {records : List Record} (ht : s.tx = some x)
    (hx : x.frame = .report session c seq records) : frameSent s = reportSent c { s with tx := none } := by
  simp only [frameSent, ht, hx]

end

/-! R37: the end of the report of a class. -/

section
variable {c : Cls} {f : InFlight} {s : State}

theorem reportSent_up (hf : (classAt s c).frame = some f) (hs : f.state = .sending) (hl : s.link = .up) :
    reportSent c s = setClass c { classAt s c with frame := some { f with state := .waiting (retransmitDue s) } } s := by
  simp only [reportSent, hf, hs, hl]

theorem reportSent_quiet {w : Option Cls} (hf : (classAt s c).frame = some f) (hs : f.state = .sending) (hl : s.link = .quiet w) :
    reportSent c s = setClass c { classAt s c with frame := some { f with state := .held } } s := by
  simp only [reportSent, hf, hs, hl]

theorem reportSent_none (hf : (classAt s c).frame = none) : reportSent c s = s := by
  simp only [reportSent, hf]

end

/-- R162: a replayed or refused reply, and any but those of RESET and LINK_CFG, starts nothing. -/
theorem replySent_idle {r : Reply} (h : r.formed = false ∨ r.status ≠ .ok ∨ (r.code ≠ 0x02 ∧ r.code ≠ 0x03)) (s : State) :
    replySent r s = s := by
  unfold replySent
  rcases h with h | h | ⟨h2, h3⟩
  · rw [if_neg (by simp [h])]
  · rw [if_neg (by simp [h])]
  · rw [if_neg h2, if_neg h3, ite_self]

/-- Settles O34. -/
theorem transmitEndReturnsToTheOwner : Obligations.TransmitEndReturnsToTheOwner := by
  refine ⟨fun f => ⟨rfl, ?_, rfl⟩, ⟨rfl, fun bytes b => ?_⟩, fun _ => rfl, rfl, fun n => ?_, fun session c seq records => ⟨rfl, fun h1 h8 => ?_⟩,
    fun r => ?_, fun n x y z => ⟨fun h => byteOf_toNat h, bytes16_eq x, bytes24_eq y, bytes32_eq z⟩, ?_⟩
  · simp [txWire, frameTail, bytes16]
  · rw [crc_append, crcByte_eq]
  · cases n <;> rfl
  · obtain ⟨hlow, hhigh⟩ := records_length records
    rw [report_length]
    omega
  · intro l bytes
    refine ⟨?_, recordBytes_length r⟩
    have hbytes : ∀ code e o extra, recordLayout r code e o extra = bytes code e o extra := fun code e o extra => by
      rcases none_or_some r.lostBefore with hlost | ⟨n, hlost⟩ <;> simp only [recordLayout, bytes, l, hlost] <;> rfl
    cases hk : r.content.kind with
    | edge d => cases d <;> exact (recordBytes_eq (congrArg kindFields hk)).trans (hbytes 1 _ 0 _)
    | width p w isOver =>
      cases p <;> cases isOver <;> exact (recordBytes_eq (congrArg kindFields hk)).trans (hbytes 2 _ _ _)
    | count n => exact (recordBytes_eq (congrArg kindFields hk)).trans (hbytes 3 0 0 _)
    | expiry n => exact (recordBytes_eq (congrArg kindFields hk)).trans (hbytes 4 0 0 _)
    | done => exact (recordBytes_eq (congrArg kindFields hk)).trans (hbytes 5 0 0 _)
    | post tag => exact (recordBytes_eq (congrArg kindFields hk)).trans (hbytes 6 0 0 _)
  · intro s x hh ht idle
    rw [exec_frameTransmitEnd hh ht]
    refine ⟨fun session c seq records hx => ⟨fun f hf hs hl => ?_, fun f w hf hs hl => ?_, fun hf => ?_⟩, fun n hx => ?_, fun r hx h => ?_⟩
    · rw [frameSent_report ht hx, reportSent_up (s := { s with tx := none }) hf hs hl]
      rfl
    · rw [frameSent_report ht hx, reportSent_quiet (s := { s with tx := none }) hf hs hl]
      rfl
    · rw [frameSent_report ht hx, reportSent_none (s := { s with tx := none }) hf]
    · rw [frameSent_notice ht hx]
    · rw [frameSent_reply ht hx, replySent_idle h]

/-! ### What the end of a reply starts (R148 to R151, R172) -/

section
variable {r : Reply} {s : State}

theorem replySent_reset {scope : Scope} (hf : r.formed = true) (hs : r.status = .ok) (hc : r.code = 0x02)
    (hp : s.pendingReset = some scope) : replySent r s = takeReset scope s := by
  simp only [replySent, hf, hs, hp, Bool.true_and]
  rw [if_pos (beq_self_eq_true Status.ok), if_pos hc]

theorem replySent_rate {rate : RateCode} (hf : r.formed = true) (hs : r.status = .ok) (hc : r.code = 0x03) (hr : r.rate = some rate) :
    replySent r s = changeRate rate s := by
  simp only [replySent, hf, hs, hc, hr, Bool.true_and]
  rw [if_pos (beq_self_eq_true Status.ok), if_neg (by decide), if_pos trivial]

theorem changeRate_hunt {rate : RateCode} (h : rate ≠ s.rate) (hrx : s.rx = .hunt) :
    changeRate rate s = { s with rate := rate, rateChange := some { time := s.timebase, frameCounted := false } } := by
  rw [changeRate, if_neg h]
  exact if_pos hrx

theorem changeRate_collecting {rate : RateCode} (h : rate ≠ s.rate) (hrx : s.rx ≠ .hunt) :
    changeRate rate s = { discarded s with rate := rate, rateChange := some { time := s.timebase, frameCounted := true } } := by
  rw [changeRate, if_neg h]
  exact if_neg hrx

end

/-- R149: after a LINK reset nothing waits and the link is DOWN, so nothing is sent and nothing taken. -/
theorem settle_linkReset {s : State} (hh : s.hardReset = none) : settle (linkReset s) = { linkReset s with attn := true } := by
  have hnone : arbitrate (linkReset s) = linkReset s :=
    arbitrate_none rfl rfl fun c => offersFrame_of_not_up (by rw [show (linkReset s).link = .down from rfl]; simp)
  have hattn : attnLevel (linkReset s) = true := (attnLevel_iff _).mpr ⟨hh, .inl rfl⟩
  rw [settle_nil (linkReset s) rfl, selectNext_eq, hnone, hattn]

/-- R150: the classes at their defaults, with next_seq kept. -/
theorem captureReset_classes (s : State) :
    (captureReset s).classes = Vector.ofFn (fun c => { classAt State.reset c with nextSeq := (classAt s c).nextSeq }) := by
  ext i hi : 1
  interval_cases i <;> rfl

/-- R151: scope ALL ends with the BOOT notice on TXD. -/
theorem settle_allReset (s : State) : settle (allReset s) =
    { State.reset with
        rate := s.rate, notices := [], inputs := s.inputs, rxHeld := s.rxHeld, pending := s.pending
        tx := some { frame := .notice .bootRequest, ends := frameTime s.rate (.notice .bootRequest) } } := by
  rw [settle_notice (s := allReset s) rfl rfl rfl rfl rfl, beginning_at_zero rfl]
  rfl

/-- Settles O35. -/
theorem resetAndRateTakeEffectAfterTheReply : Obligations.ResetAndRateTakeEffectAfterTheReply := by
  intro s x r hh ht hx hformed hok
  have hexec : exec .frameTransmitEnd s = .next (settle (replySent r { s with tx := none })) := by
    rw [exec_frameTransmitEnd hh ht, frameSent_reply ht hx]
  refine ⟨fun rate hcode hrate => ?_, fun hcode => ?_⟩
  · rw [hexec, replySent_rate hformed hok hcode hrate]
    refine ⟨fun hsame => ?_, fun hne hrx => ?_, fun hne hrx => ?_⟩
    · rw [changeRate, if_pos hsame]
    · rw [changeRate_hunt (s := { s with tx := none }) hne hrx]
    · rw [changeRate_collecting (s := { s with tx := none }) hne hrx]
      rfl
  · refine ⟨fun hp => ?_, fun hp => ?_, fun hp => ?_⟩
    · rw [hexec, replySent_reset (s := { s with tx := none }) hformed hok hcode hp]
      exact congrArg _ (settle_linkReset (s := { s with tx := none }) hh)
    · rw [hexec, replySent_reset (s := { s with tx := none }) hformed hok hcode hp]
      have hclasses := captureReset_classes { s with tx := none }
      refine congrArg (fun t => Host.Outcome.next (settle t)) ?_
      show { captureReset { s with tx := none } with classes := (captureReset { s with tx := none }).classes } = _
      rw [hclasses]
      rfl
    · rw [hexec, replySent_reset (s := { s with tx := none }) hformed hok hcode hp]
      exact congrArg _ (settle_allReset { s with tx := none })

end Sys2Proof.Machine
end

section
/-! SUPPORT. Reactions: triggers, the actions of an entry, its turn, and the firing pass (R101 to R113). -/

namespace Sys2Proof.Machine

open Sys2Proof

/-! ### Triggers (R102, R103) -/

theorem fromSource_iff (ev : Content) (source : TriggerSource) : fromSource ev source = true ↔
    (∃ i, source = .channel i ∧ ev.source = i ∧ ∀ n, ev.kind ≠ .expiry n) ∨
      (∃ t n, source = .timer t ∧ ev.source.val = t.val ∧ ev.kind = .expiry n) := by
  cases source with
  | channel i => cases hk : ev.kind <;> simp [fromSource, hk, Fin.ext_iff] <;> exact eq_comm
  | timer t => cases hk : ev.kind <;> simp [fromSource, hk]

theorem meetsQualifier_iff (ev : Content) (width : Word24) (q : Qualifier) : meetsQualifier ev width q = true ↔
    q = .any ∨ (q = .rise ∧ ev.kind = .edge .rise) ∨ (q = .fall ∧ ev.kind = .edge .fall) ∨
      (q = .atLeast ∧ ∃ p w isOver, ev.kind = .width p w isOver ∧ width.toNat ≤ w.toNat) ∨
      (q = .below ∧ ∃ p w isOver, ev.kind = .width p w isOver ∧ w.toNat < width.toNat) := by
  cases q with
  | atLeast => cases hk : ev.kind <;> simp [meetsQualifier, hk]
  | below => cases hk : ev.kind <;> simp [meetsQualifier, hk]
  | _ => simp [meetsQualifier]

/-- A width event of the channel of the trigger: AT_LEAST and BELOW compare the widths. -/
theorem matchesTrigger_width {ev : Content} {i : ChannelId} {p : Polarity} {w : Word24} {isOver : Bool} {c : EntryContents}
    (hs : c.source = .channel i) (hi : ev.source = i) (hk : ev.kind = .width p w isOver) :
    (c.qualifier = .atLeast → matchesTrigger ev c = decide (c.width.toNat ≤ w.toNat)) ∧
    (c.qualifier = .below → matchesTrigger ev c = decide (w.toNat < c.width.toNat)) := by
  constructor <;> intro hq <;> simp [matchesTrigger, fromSource, meetsQualifier, hs, hi, hk, hq]

theorem isCandidate_iff (ev : Content) (s : State) (i : EntryId) :
    isCandidate ev s i = true ↔ ∃ c, (entryAt s i).state = .armed c ∧ matchesTrigger ev c = true := by
  cases h : (entryAt s i).state <;> simp [isCandidate, h]

/-! ### Actions (R105 to R110) -/

theorem setEntry_entryAt (i : EntryId) (s : State) : setEntry i (entryAt s i) s = s := by
  simp [setEntry, entryAt]

/-- What an action does, in the terms of the statement. -/
theorem runAction_eq_acted (ev : Content) (i : EntryId) (s : State) (a : Action) : runAction ev i s a = acted ev i s a := by
  cases a with
  | out op =>
    simp only [runAction, reactionClaim, acted]
    split
    · rfl
    · cases op <;> rfl
  | reactArm j =>
    cases h : (entryAt s j).state <;> simp only [runAction, armEntry, armedEntry, acted, h]
    case empty => exact setEntry_entryAt j s
    all_goals rfl
  | reactDisarm j =>
    cases h : (entryAt s j).state <;> simp only [runAction, disarmEntry, disarmedEntry, acted, h]
    case armed => rfl
    all_goals exact setEntry_entryAt j s
  | _ => rfl

theorem fires_runAction (ev : Content) (i j : EntryId) (s : State) (a : Action) :
    (entryAt (runAction ev i s a) j).fires = (entryAt s j).fires := by
  cases a with
  | reactArm k =>
    simp only [runAction, armEntry, entryAt_setEntry]
    split
    · next hk => subst hk; unfold armedEntry; split <;> rfl
    · rfl
  | reactDisarm k =>
    simp only [runAction, disarmEntry, entryAt_setEntry]
    split
    · next hk => subst hk; unfold disarmedEntry; split <;> rfl
    · rfl
  | out op => simp [runAction]
  | chanArm k => simp [runAction]
  | chanDisarm k => simp [runAction]
  | post k tag => simp [runAction]
  | timerStart t => rfl
  | timerStop t => rfl

/-- The actions of an entry, in list order. -/
def ranActions (ev : Content) (i : EntryId) (c : EntryContents) (s : State) : State :=
  (c.actions.map (·.action)).foldl (runAction ev i) s

theorem fires_ranActions (ev : Content) (i j : EntryId) (c : EntryContents) (s : State) :
    (entryAt (ranActions ev i c s) j).fires = (entryAt s j).fires := by
  unfold ranActions
  induction c.actions.map (·.action) generalizing s with
  | nil => rfl
  | cons a l ih => exact (ih _).trans (fires_runAction ev i j s a)

/-! ### The turn of an entry (R113) -/

section
variable {ev : Content} {i : EntryId} {c : EntryContents} {s : State}

theorem takeCandidate_armed (h : (entryAt s i).state = .armed c) :
    takeCandidate ev s i = spendFiring ev i (countFiring i (ranActions ev i c s)) := by
  simp only [takeCandidate, h]
  rfl

theorem takeCandidate_not_armed (h : ∀ c, (entryAt s i).state ≠ .armed c) : takeCandidate ev s i = s := by
  unfold takeCandidate
  split
  · next c hc => exact absurd hc (h c)
  · rfl

theorem entryAt_countFiring (i : EntryId) (u : State) : entryAt (countFiring i u) i = { entryAt u i with fires := (entryAt u i).fires + 1 } :=
  entryAt_setEntry_same _ _ _

theorem setEntry_setEntry (i : EntryId) (x y : Entry) (s : State) : setEntry i x (setEntry i y s) = setEntry i x s := by
  simp [setEntry]

/-- An entry that has disarmed itself spends nothing. -/
theorem spendFiring_disarmed (h : (entryAt s i).state = .disarmed c) : spendFiring ev i s = s := by
  simp only [spendFiring, h]

theorem spendFiring_unlimited (h : (entryAt s i).state = .armed c) (hl : c.fireLimit = 0) : spendFiring ev i s = s := by
  simp only [spendFiring, h]
  exact if_pos hl

theorem spendFiring_left (h : (entryAt s i).state = .armed c) (hl : c.fireLimit ≠ 0) (hr : (entryAt s i).remaining ≠ 1) :
    spendFiring ev i s = setEntry i { entryAt s i with remaining := (entryAt s i).remaining - 1 } s := by
  have hleft : ¬ (entryAt s i).remaining - 1 = 0 := fun h0 => hr (by simpa using sub_eq_zero.mp h0)
  simp only [spendFiring, h]
  rw [if_neg hl, if_neg hleft]

theorem spendFiring_last (h : (entryAt s i).state = .armed c) (hl : c.fireLimit ≠ 0) (hr : (entryAt s i).remaining = 1) :
    spendFiring ev i s =
      (if c.reportDone then offer c.doneClass { kind := .done, source := i, timestamp := ev.timestamp }
        (setEntry i { entryAt s i with state := .disarmed c, remaining := 0 } s)
      else setEntry i { entryAt s i with state := .disarmed c, remaining := 0 } s) := by
  have hlast : (entryAt s i).remaining - 1 = 0 := by rw [hr]; rfl
  simp only [spendFiring, h]
  rw [if_neg hl, if_pos hlast]

/-- The turn touches no other entry after its actions. -/
theorem entryAt_spendFiring_ne {j : EntryId} (hj : j ≠ i) (u : State) : entryAt (spendFiring ev i u) j = entryAt u j := by
  unfold spendFiring
  dsimp only
  split
  · split
    · rfl
    · split
      · split <;> simp [entryAt_setEntry_ne i j _ _ hj]
      · exact entryAt_setEntry_ne i j _ _ hj
  · rfl

theorem fires_spendFiring (j : EntryId) (u : State) : (entryAt (spendFiring ev i u) j).fires = (entryAt u j).fires := by
  by_cases hj : j = i
  · subst hj
    unfold spendFiring
    dsimp only
    split
    · split
      · rfl
      · split
        · split <;> simp
        · simp
    · rfl
  · rw [entryAt_spendFiring_ne hj]

theorem channels_spendFiring (u : State) : (spendFiring ev i u).channels = u.channels := by
  unfold spendFiring
  dsimp only
  split
  · split
    · rfl
    · split
      · split <;> simp
      · rfl
  · rfl

theorem fires_takeCandidate_armed (h : (entryAt s i).state = .armed c) :
    (entryAt (takeCandidate ev s i) i).fires = (entryAt s i).fires + 1 := by
  rw [takeCandidate_armed h, fires_spendFiring, entryAt_countFiring, fires_ranActions]

theorem fires_takeCandidate_ne {j : EntryId} (hj : j ≠ i) : (entryAt (takeCandidate ev s i) j).fires = (entryAt s j).fires := by
  by_cases h : ∃ c, (entryAt s i).state = .armed c
  · obtain ⟨c, hc⟩ := h
    rw [takeCandidate_armed hc, fires_spendFiring, countFiring, entryAt_setEntry_ne _ _ _ _ hj, fires_ranActions]
  · rw [takeCandidate_not_armed fun c hc => h ⟨c, hc⟩]

theorem fires_takeCandidate (j : EntryId) : (entryAt (takeCandidate ev s i) j).fires = (entryAt s j).fires ∨
    (entryAt (takeCandidate ev s i) j).fires = (entryAt s j).fires + 1 := by
  by_cases hj : j = i
  · subst hj
    by_cases h : ∃ c, (entryAt s j).state = .armed c
    · obtain ⟨c, hc⟩ := h
      exact .inr (fires_takeCandidate_armed hc)
    · exact .inl (by rw [takeCandidate_not_armed fun c hc => h ⟨c, hc⟩])
  · exact .inl (fires_takeCandidate_ne hj)

end

/-! ### The firing pass (R111, R112) -/

theorem fires_foldl_of_not_mem {ev : Content} {j : EntryId} {l : List EntryId} (h : j ∉ l) (s : State) :
    (entryAt (l.foldl (takeCandidate ev) s) j).fires = (entryAt s j).fires := by
  induction l generalizing s with
  | nil => rfl
  | cons i l ih =>
    rw [List.mem_cons, not_or] at h
    obtain ⟨hne, hl⟩ := h
    exact (ih hl _).trans (fires_takeCandidate_ne hne)

/-- An entry has at most one turn in a pass. -/
theorem fires_foldl {ev : Content} (j : EntryId) {l : List EntryId} (h : l.Nodup) (s : State) :
    (entryAt (l.foldl (takeCandidate ev) s) j).fires = (entryAt s j).fires ∨
    (entryAt (l.foldl (takeCandidate ev) s) j).fires = (entryAt s j).fires + 1 := by
  induction l generalizing s with
  | nil => exact .inl rfl
  | cons i l ih =>
    obtain ⟨hi, hl⟩ := List.nodup_cons.mp h
    by_cases hj : j = i
    · subst hj
      rw [List.foldl_cons, fires_foldl_of_not_mem hi]
      exact fires_takeCandidate j
    · rw [List.foldl_cons, ← fires_takeCandidate_ne (ev := ev) (s := s) hj]
      exact ih hl _

/-- The candidates of the pass of `ev` in `s`, in ascending index. -/
def candidatesOf (ev : Content) (s : State) : List EntryId := allEntries.filter (isCandidate ev s)

theorem firingPass_eq (ev : Content) (s : State) : firingPass ev s = (candidatesOf ev s).foldl (takeCandidate ev) s := rfl

theorem candidatesOf_pairwise (ev : Content) (s : State) : (candidatesOf ev s).Pairwise (· < ·) :=
  List.Pairwise.filter _ (by decide : allEntries.Pairwise (· < ·))

theorem mem_candidatesOf {ev : Content} {s : State} (i : EntryId) : i ∈ candidatesOf ev s ↔ isCandidate ev s i = true := by
  simp [candidatesOf, allEntries]

theorem candidatesOf_unique {ev : Content} {s : State} {l : List EntryId} (hl : l.Pairwise (· < ·))
    (h : ∀ i, i ∈ l ↔ isCandidate ev s i = true) : candidatesOf ev s = l :=
  (candidatesOf_pairwise ev s).eq_of_mem_iff hl fun i => (mem_candidatesOf i).trans (h i).symm

/-- The candidate before disarms the one after it, which then has no turn. -/
theorem firingPass_disarms {ev : Content} {s : State} {i j : EntryId} {c d : EntryContents} (hij : i < j)
    (hcand : ∀ k, isCandidate ev s k = true ↔ k = i ∨ k = j) (hi : (entryAt s i).state = .armed c) (hj : (entryAt s j).state = .armed d)
    (hactions : c.actions.map (·.action) = [.reactDisarm j]) :
    firingPass ev s = takeCandidate ev s i ∧ entryAt (firingPass ev s) j = { entryAt s j with state := .disarmed d } := by
  have hne : j ≠ i := ne_of_gt hij
  have hpass : firingPass ev s = takeCandidate ev (takeCandidate ev s i) j := by
    rw [firingPass_eq, candidatesOf_unique (l := [i, j]) (by simpa using hij) (by simp [hcand])]
    rfl
  have hran : ranActions ev i c s = disarmEntry j s := by
    rw [ranActions, hactions]
    rfl
  have hdisarmed : entryAt (takeCandidate ev s i) j = { entryAt s j with state := .disarmed d } := by
    rw [takeCandidate_armed hi, entryAt_spendFiring_ne hne, countFiring, entryAt_setEntry_ne _ _ _ _ hne, hran, disarmEntry,
      entryAt_setEntry_same]
    simp only [disarmedEntry, hj]
  have hsame : firingPass ev s = takeCandidate ev s i := by
    rw [hpass]
    exact takeCandidate_not_armed (by simp [hdisarmed])
  exact ⟨hsame, by rw [hsame, hdisarmed]⟩

/-- Settles O50. -/
theorem firingPassFiresCandidatesOnce : Obligations.FiringPassFiresCandidatesOnce := by
  intro ev s fires
  have hnodup : (candidatesOf ev s).Nodup := (candidatesOf_pairwise ev s).imp ne_of_lt
  refine ⟨fun c _ _ => ?_, fun i p isOver c hs hi => ⟨fun hk => ?_, fun hk => ?_⟩, isCandidate_iff ev s, ?_, ?_, ?_, ?_, ?_, ?_, ?_⟩
  · rw [matchesTrigger, Bool.and_eq_true, fromSource_iff, meetsQualifier_iff]
  · obtain ⟨hatLeast, hbelow⟩ := matchesTrigger_width hs hi hk
    exact ⟨fun hq => (hatLeast hq).trans (by simp), fun hq => (hbelow hq).trans (by simp)⟩
  · obtain ⟨hatLeast, hbelow⟩ := matchesTrigger_width hs hi hk
    have hwidth : c.width.toNat ≤ (16777215 : Word24).toNat := Nat.le_of_lt_succ c.width.isLt
    exact ⟨fun hq => (hatLeast hq).trans (decide_eq_true hwidth), fun hq => (hbelow hq).trans (decide_eq_false (Nat.not_lt.mpr hwidth))⟩
  · intro candidates hsorted hmem
    rw [firingPass_eq, candidatesOf_unique hsorted hmem]
  · exact fun i u h => takeCandidate_not_armed h
  · exact fun i j c d hij hcand hi hj hactions => firingPass_disarms hij hcand hi hj hactions
  · intro h
    rw [firingPass_eq, candidatesOf_unique (l := []) .nil (by simp [h])]
    rfl
  · exact fun i h => fires_foldl_of_not_mem (mt (mem_candidatesOf i).mp (by simp [h])) s
  · exact fun i => fires_foldl i hnodup s
  · intro i hi hfirst
    obtain ⟨c, hc, -⟩ := (isCandidate_iff ev s i).mp hi
    rcases nil_or_cons (candidatesOf ev s) with hnil | ⟨k, rest, hcons⟩
    · rw [← mem_candidatesOf, hnil] at hi
      cases hi
    · have hsorted := candidatesOf_pairwise ev s
      rw [hcons, List.pairwise_cons] at hsorted
      obtain ⟨hlower, -⟩ := hsorted
      have hk : k = i := by
        have hki : i = k ∨ i ∈ rest := by simpa [← mem_candidatesOf, hcons] using hi
        rcases hki with h | h
        · exact h.symm
        · have hcand : isCandidate ev s k = true := (mem_candidatesOf k).mp (by simp [hcons])
          rw [hfirst k (hlower i h)] at hcand
          cases hcand
      subst hk
      show (entryAt (firingPass ev s) k).fires = _
      rw [firingPass_eq, hcons, List.foldl_cons, fires_foldl_of_not_mem fun h => lt_irrefl k (hlower k h)]
      exact fires_takeCandidate_armed hc

end Sys2Proof.Machine
end

section
/-! SUPPORT. What the turn of an entry leaves (R105 to R110, R113). -/

namespace Sys2Proof.Machine

open Sys2Proof

theorem ranActions_eq_acted (ev : Content) (i : EntryId) (c : EntryContents) (s : State) :
    ranActions ev i c s = (c.actions.map (·.action)).foldl (acted ev i) s := by
  have h : runAction ev i = acted ev i := funext fun u => funext fun a => runAction_eq_acted ev i u a
  rw [ranActions, h]

section
variable {ev : Content} {i : EntryId} {c : EntryContents} {s : State}

/-- The firing is counted, in the state the entry then stands in. -/
theorem countFiring_ranActions {state : EntryState} (h : (entryAt (ranActions ev i c s) i).state = state) :
    countFiring i (ranActions ev i c s) = setEntry i
      { state := state, remaining := (entryAt (ranActions ev i c s) i).remaining, fires := (entryAt s i).fires + 1 }
      (ranActions ev i c s) := by
  rw [← h, ← fires_ranActions ev i i c s]
  rfl

/-! The four ends of a turn (R113). -/

theorem turn_disarmed (h : (entryAt s i).state = .armed c) (hran : (entryAt (ranActions ev i c s) i).state = .disarmed c) :
    takeCandidate ev s i = setEntry i
      { state := .disarmed c, remaining := (entryAt (ranActions ev i c s) i).remaining, fires := (entryAt s i).fires + 1 }
      (ranActions ev i c s) := by
  rw [takeCandidate_armed h, countFiring_ranActions hran]
  exact spendFiring_disarmed (by rw [entryAt_setEntry_same])

theorem turn_unlimited (h : (entryAt s i).state = .armed c) (hran : (entryAt (ranActions ev i c s) i).state = .armed c)
    (hl : c.fireLimit = 0) :
    takeCandidate ev s i = setEntry i
      { state := .armed c, remaining := (entryAt (ranActions ev i c s) i).remaining, fires := (entryAt s i).fires + 1 }
      (ranActions ev i c s) := by
  rw [takeCandidate_armed h, countFiring_ranActions hran]
  exact spendFiring_unlimited (by rw [entryAt_setEntry_same]) hl

theorem turn_left (h : (entryAt s i).state = .armed c) (hran : (entryAt (ranActions ev i c s) i).state = .armed c)
    (hl : c.fireLimit ≠ 0) (hr : (entryAt (ranActions ev i c s) i).remaining ≠ 1) :
    takeCandidate ev s i = setEntry i
      { state := .armed c, remaining := (entryAt (ranActions ev i c s) i).remaining - 1, fires := (entryAt s i).fires + 1 }
      (ranActions ev i c s) := by
  rw [takeCandidate_armed h, countFiring_ranActions hran, spendFiring_left (by rw [entryAt_setEntry_same]) hl (by rwa [entryAt_setEntry_same]),
    entryAt_setEntry_same, setEntry_setEntry]

theorem turn_last (h : (entryAt s i).state = .armed c) (hran : (entryAt (ranActions ev i c s) i).state = .armed c)
    (hl : c.fireLimit ≠ 0) (hr : (entryAt (ranActions ev i c s) i).remaining = 1) :
    takeCandidate ev s i =
      (if c.reportDone then offer c.doneClass { kind := .done, source := i, timestamp := ev.timestamp }
        (setEntry i { state := .disarmed c, remaining := 0, fires := (entryAt s i).fires + 1 } (ranActions ev i c s))
      else setEntry i { state := .disarmed c, remaining := 0, fires := (entryAt s i).fires + 1 } (ranActions ev i c s)) := by
  rw [takeCandidate_armed h, countFiring_ranActions hran, spendFiring_last (by rw [entryAt_setEntry_same]) hl (by rwa [entryAt_setEntry_same]),
    entryAt_setEntry_same, setEntry_setEntry]

theorem channels_takeCandidate (h : (entryAt s i).state = .armed c) :
    (takeCandidate ev s i).channels = (ranActions ev i c s).channels := by
  rw [takeCandidate_armed h, channels_spendFiring]
  rfl

/-! Turns whose actions leave the entry itself alone. -/

theorem entry_fired (h : (entryAt s i).state = .armed c) :
    ({ entryAt s i with fires := (entryAt s i).fires + 1 } : Entry) =
      { state := .armed c, remaining := (entryAt s i).remaining, fires := (entryAt s i).fires + 1 } := by
  rw [← h]

theorem turn_unlimited_same {u : State} (h : (entryAt s i).state = .armed c) (hran : ranActions ev i c s = u)
    (hu : entryAt u i = entryAt s i) (hl : c.fireLimit = 0) :
    takeCandidate ev s i = setEntry i { entryAt s i with fires := (entryAt s i).fires + 1 } u := by
  rw [turn_unlimited h (by rw [hran, hu, h]) hl, hran, hu, entry_fired h]

end

/-! Claims on a line that is not locked. -/

theorem acted_toggle {ev : Content} {i : EntryId} {l : LineId} {u : State} (h : ¬ (outputAt u l).locked = true) :
    acted ev i u (.out (.toggle l)) = setOutput l { outputAt u l with level := !(outputAt u l).level, pulse := none } u :=
  if_neg h

theorem acted_pulse {ev : Content} {i : EntryId} {l : LineId} {v : Bool} {d : Word24} {u : State} (h : ¬ (outputAt u l).locked = true) :
    acted ev i u (.out (.pulse l v d)) = setOutput l { outputAt u l with
      level := v
      pulse := some { endTime := u.timebase + d.setWidth 32
                      restore := match (outputAt u l).pulse with | some p => p.restore | none => (outputAt u l).level } } u :=
  if_neg h

/-- Settles O51. -/
theorem entryRunsItsActionThenSpendsTheFiring : Obligations.EntryRunsItsActionThenSpendsTheFiring := by
  intro ev i c s h ran fired spent
  have hran : ranActions ev i c s = ran := ranActions_eq_acted ev i c s
  have hone : ∀ a, c.actions.map (·.action) = [a] → ranActions ev i c s = acted ev i s a := fun a ha => by
    rw [ranActions_eq_acted, ha]
    rfl
  refine ⟨?_, fun hd => ?_, fun ha hl => ?_, fun ha hl hr => ?_, fun ha hl hr => ?_, ?_, ?_, ?_, ?_, ?_, ?_⟩
  · rw [← hran]
    exact runActions_holds _ (.inl h)
  · rw [← hran] at hd
    rw [turn_disarmed h hd, hran]
    rfl
  · rw [← hran] at ha
    rw [turn_unlimited h ha hl, hran]
    rfl
  · rw [← hran] at ha hr
    rw [turn_left h ha hl hr, hran]
    rfl
  · rw [← hran] at ha hr
    rw [turn_last h ha hl hr, hran]
    rfl
  · intro k hactions hoff
    rw [channels_takeCandidate h, hone _ hactions]
    simp only [acted, if_pos hoff]
  · intro l v hactions hl
    have hset := hone _ hactions
    by_cases hlocked : (outputAt s l).locked = true
    · rw [turn_unlimited_same h (hset.trans (if_pos hlocked)) rfl hl, if_pos hlocked]
      rfl
    · rw [turn_unlimited_same h (hset.trans (if_neg hlocked)) rfl hl, if_neg hlocked]
      rfl
  · intro l v d hactions hlocked hl
    have hboth : ranActions ev i c s = { s with outputs := s.outputs.set l { outputAt s l with
        level := v, pulse := some { endTime := s.timebase + d.setWidth 32, restore := !(outputAt s l).level } } } := by
      have hfree : ¬ (outputAt s l).locked = true := by simp [hlocked]
      rw [ranActions_eq_acted, hactions]
      show acted ev i (acted ev i s (.out (.toggle l))) (.out (.pulse l v d)) = _
      rw [acted_toggle hfree, acted_pulse (by rwa [outputAt_setOutput_same]), outputAt_setOutput_same]
      simp [setOutput]
    rw [turn_unlimited_same h hboth rfl hl]
    rfl
  · intro t hactions hl hr
    have hstart := hone _ hactions
    have hsame : entryAt (ranActions ev i c s) i = entryAt s i := by rw [hstart]; rfl
    rw [turn_left h (by rw [hsame, h]) hl (by rwa [hsame]), hsame, hstart, ← h]
    rfl
  · intro tag k hactions hl hr posted done
    have hpost := hone _ hactions
    have hsame : entryAt (ranActions ev i c s) i = entryAt s i := by rw [hpost]; simp [acted]
    rw [turn_last h (by rw [hsame, h]) hl (by rwa [hsame]), hpost]
    have hdone : setEntry i { state := .disarmed c, remaining := 0, fires := (entryAt s i).fires + 1 } (acted ev i s (.post k tag)) = done := by
      have hentries : posted.entries = s.entries := offer_entries _ _ _
      simp only [done, ← hentries]
      rfl
    rw [hdone]
  · intro hactions
    have hdisarm : ranActions ev i c s = setEntry i { entryAt s i with state := .disarmed c } s := by
      rw [hone _ hactions]
      simp only [acted, h]
      rfl
    rw [turn_disarmed h (by rw [hdisarm, entryAt_setEntry_same]), hdisarm, entryAt_setEntry_same, setEntry_setEntry]
    rfl

end Sys2Proof.Machine
end

section
/-! SUPPORT. Samples, edges and what the Capture Unit makes of them, and the points of time (R15, R42, R43, R53 to R58, R73 to R83, R91, R92,
R141, R143, R146). -/

namespace Sys2Proof.Machine

open Sys2Proof

/-! ### Events that set one block -/

section
variable {f : State → State} {s : State}

/-- An event that leaves nothing but a channel and the level of its line. -/
theorem event_channel {i : ChannelId} {level : Bool} {x : Channel} (hh : s.hardReset = none)
    (h : f (selectWaiting s) = setChannel i x (setInput i level (selectWaiting s))) :
    event f s = .next (settle (setChannel i x (setInput i level s))) := by
  rw [event_eq _ _ hh, h]
  exact congrArg _ (settle_selectWaiting (f := fun u => setChannel i x (setInput i level u)) s (fun _ _ _ => rfl) rfl rfl rfl rfl rfl rfl)

end

/-! ### Samples (R53 to R55) -/

theorem sampleDue_iff (now : Time) (c : Channel) : sampleDue now c = true ↔
    c.sampler ≠ .off ∧ now.toNat % 4 ^ c.interval.val = 0 ∧ c.instantTaken ≠ some now := by
  simp [sampleDue, intervalMicros, and_assoc]

theorem extendRun_eq_runAfter (now : Time) (level : Bool) (c : Channel) : extendRun now level c.run = runAfter now level c := by
  rcases none_or_some c.run with h | ⟨r, h⟩
  · simp [extendRun, runAfter, h]
  · by_cases hl : r.level = level <;> simp [extendRun, runAfter, h, hl]

section
variable {i : ChannelId} {level : Bool} {s : State}

theorem sample_not_due (h : sampleDue s.timebase (channelAt s i) = false) : sample i level s = s := by
  simp [sample, h]

theorem edgeDue_not_due (h : sampleDue s.timebase (channelAt s i) = false) : edgeDue i s = none := by
  unfold edgeDue
  split <;> simp [h]

theorem baselineDue_not_due (h : sampleDue s.timebase (channelAt s i) = false) : baselineDue i level s = false := by
  simp [baselineDue, h]

/-- R55: the sample that completes the first run is the baseline. -/
theorem completedRun_settling (hs : (channelAt s i).sampler = .settling)
    (hlen : (channelAt s i).filterCount.toNat ≤ (runAfter s.timebase level (channelAt s i)).length) :
    completedRun s.timebase level (channelAt s i) = some (runAfter s.timebase level (channelAt s i)) := by
  simp only [completedRun, hs, extendRun_eq_runAfter]
  exact if_pos hlen

/-- R56: a sample opposite to the filtered level completes a run. -/
theorem completedRun_stable {filtered : Bool} (hs : (channelAt s i).sampler = .stable filtered)
    (hlen : (channelAt s i).filterCount.toNat ≤ (runAfter s.timebase (!filtered) (channelAt s i)).length) :
    completedRun s.timebase (!filtered) (channelAt s i) = some (runAfter s.timebase (!filtered) (channelAt s i)) := by
  simp only [completedRun, hs, extendRun_eq_runAfter]
  exact if_pos ⟨by simp, hlen⟩

theorem sample_baseline (hdue : sampleDue s.timebase (channelAt s i) = true) (hs : (channelAt s i).sampler = .settling)
    (hlen : (channelAt s i).filterCount.toNat ≤ (runAfter s.timebase level (channelAt s i)).length) :
    sample i level s = setChannel i { channelAt s i with
      sampler := .stable level, run := none, lastSample := some level, instantTaken := some s.timebase } (setInput i level s) := by
  simp only [sample, hdue, completedRun_settling hs hlen, hs, if_true, settleAt, noteSample_eq, channelAt_setChannel_same,
    setChannel_setChannel]
  rfl

theorem sample_edge {filtered : Bool} (hdue : sampleDue s.timebase (channelAt s i) = true)
    (hs : (channelAt s i).sampler = .stable filtered)
    (hlen : (channelAt s i).filterCount.toNat ≤ (runAfter s.timebase (!filtered) (channelAt s i)).length) :
    sample i (!filtered) s =
      recognizeEdge i (!filtered) (runAfter s.timebase (!filtered) (channelAt s i)).start (noteSample i (!filtered) s) := by
  simp only [sample, hdue, completedRun_stable hs hlen, hs, if_true]

/-- R54: a sample that completes no run lengthens, begins or empties it. -/
theorem sample_counts (hdue : sampleDue s.timebase (channelAt s i) = true)
    (hnone : completedRun s.timebase level (channelAt s i) = none) :
    sample i level s = setChannel i { channelAt s i with
      run := brokenOrLongerRun s.timebase level (channelAt s i), lastSample := some level, instantTaken := some s.timebase }
      (setInput i level s) := by
  simp only [sample, hdue, hnone, if_true, noteSample_eq, channelAt_setChannel_same, setChannel_setChannel]
  rfl

theorem sample_lengthens_settling (hdue : sampleDue s.timebase (channelAt s i) = true) (hs : (channelAt s i).sampler = .settling)
    (hlen : (runAfter s.timebase level (channelAt s i)).length < (channelAt s i).filterCount.toNat) :
    sample i level s = setChannel i { channelAt s i with
      run := some (runAfter s.timebase level (channelAt s i)), lastSample := some level, instantTaken := some s.timebase }
      (setInput i level s) := by
  have hnone : completedRun s.timebase level (channelAt s i) = none := by
    simp only [completedRun, hs, extendRun_eq_runAfter]
    exact if_neg (by omega)
  rw [sample_counts hdue hnone, brokenOrLongerRun, hs, ← extendRun_eq_runAfter]

theorem sample_empties (hdue : sampleDue s.timebase (channelAt s i) = true) (hs : (channelAt s i).sampler = .stable level) :
    sample i level s = setChannel i { channelAt s i with
      run := none, lastSample := some level, instantTaken := some s.timebase } (setInput i level s) := by
  have hnone : completedRun s.timebase level (channelAt s i) = none := by simp [completedRun, hs]
  rw [sample_counts hdue hnone, brokenOrLongerRun, hs]
  simp

theorem sample_lengthens_stable (hdue : sampleDue s.timebase (channelAt s i) = true) (hs : (channelAt s i).sampler = .stable (!level))
    (hlen : (runAfter s.timebase level (channelAt s i)).length < (channelAt s i).filterCount.toNat) :
    sample i level s = setChannel i { channelAt s i with
      run := some (runAfter s.timebase level (channelAt s i)), lastSample := some level, instantTaken := some s.timebase }
      (setInput i level s) := by
  have hnone : completedRun s.timebase level (channelAt s i) = none := by
    simp only [completedRun, hs, extendRun_eq_runAfter]
    exact if_neg (by omega)
  rw [sample_counts hdue hnone, brokenOrLongerRun, hs, ← extendRun_eq_runAfter]
  simp

end

/-! The edge due now, or none (R56). -/

theorem exec_edgeRecognized_none {i : ChannelId} {s : State} (hh : s.hardReset = none) (h : edgeDue i (selectWaiting s) = none) :
    exec (.edgeRecognized i) s = .next (settle s) := by
  show execEdgeRecognized i s = _
  rw [execEdgeRecognized]
  refine event_idle hh ?_
  simp only [h]

theorem exec_edgeRecognized_some {i : ChannelId} {level : Bool} {s : State} (hh : s.hardReset = none)
    (h : edgeDue i (selectWaiting s) = some level) :
    exec (.edgeRecognized i) s = .next (settle (sample i level (selectWaiting s))) := by
  show execEdgeRecognized i s = _
  rw [execEdgeRecognized, event_eq _ _ hh]
  simp only [h]

/-- Settles O36. -/
theorem sampleCountsTowardTheRun : Obligations.SampleCountsTowardTheRun := by
  refine ⟨sampleDue_iff, ?_, ?_⟩
  · intro i level s hh c hnot
    have hdue : sampleDue (selectWaiting s).timebase (channelAt (selectWaiting s) i) = false := by
      rw [selectWaiting_timebase, channelAt_selectWaiting, Bool.eq_false_iff, Ne, sampleDue_iff]
      rintro ⟨hoff, hinstant, htaken⟩
      rcases hnot with h | h | h
      · exact hoff h
      · exact h hinstant
      · exact htaken h
    refine ⟨event_idle hh (sample_not_due hdue), exec_edgeRecognized_none hh (edgeDue_not_due hdue),
      event_idle (f := fun t => if baselineDue i level t then sample i level t else t) hh ?_⟩
    rw [baselineDue_not_due hdue]
    rfl
  · intro i level s hh hdue c run after
    have htime := selectWaiting_timebase s
    have hchannel := channelAt_selectWaiting s i
    have hdue' : sampleDue (selectWaiting s).timebase (channelAt (selectWaiting s) i) = true := by rwa [htime, hchannel]
    refine ⟨fun hs hlen => ?_, fun hs => ?_, fun hs hlen => ?_, fun hs hlen => ?_⟩
    · refine event_channel hh ?_
      rw [sample_lengthens_settling hdue' (by rwa [hchannel]) (by rwa [htime, hchannel]), htime, hchannel]
    · refine event_channel hh ?_
      rw [sample_empties hdue' (by rwa [hchannel]), htime, hchannel]
    · refine event_channel hh ?_
      rw [sample_lengthens_stable hdue' (by rwa [hchannel]) (by rwa [htime, hchannel]), htime, hchannel]
    · have hsample : sample i level (selectWaiting s) = setChannel i { channelAt s i with
          sampler := .stable level, run := none, lastSample := some level, instantTaken := some s.timebase }
          (setInput i level (selectWaiting s)) := by
        rw [sample_baseline hdue' (by rwa [hchannel]) (by rwa [htime, hchannel]), htime, hchannel]
      have hbaseline : baselineDue i level (selectWaiting s) = true := by
        rw [baselineDue, completedRun_settling (by rwa [hchannel]) (by rwa [htime, hchannel]), hdue', hchannel, hs]
        rfl
      have hexec : exec (.baseline i level) s = after { c with sampler := .stable level, run := none } := by
        refine event_channel (f := fun t => if baselineDue i level t then sample i level t else t) hh ?_
        rw [if_pos hbaseline, hsample]
      exact ⟨hexec, (event_channel hh hsample).trans hexec.symm⟩

/-- Settles O37. -/
theorem edgeIsRecognizedAndHandedOver : Obligations.EdgeIsRecognizedAndHandedOver := by
  intro i filtered s hh hs hdue level c run hlen after
  have htime := selectWaiting_timebase s
  have hchannel := channelAt_selectWaiting s i
  have hs' : (channelAt (selectWaiting s) i).sampler = .stable filtered := by rwa [hchannel]
  have hdue' : sampleDue (selectWaiting s).timebase (channelAt (selectWaiting s) i) = true := by rwa [htime, hchannel]
  have hlen' : (channelAt (selectWaiting s) i).filterCount.toNat ≤
      (runAfter (selectWaiting s).timebase (!filtered) (channelAt (selectWaiting s) i)).length := by rwa [htime, hchannel]
  have hedge : edgeDue i (selectWaiting s) = some level := by
    simp only [edgeDue, hs', hdue', completedRun_stable hs' hlen']
    rfl
  have hexec : exec (.edgeRecognized i) s = .next (settle (sample i level (selectWaiting s))) := exec_edgeRecognized_some hh hedge
  have hseen : edgeSeen level (notedSample s.timebase level c) = { c with
      sampler := .stable level, run := none, lastSample := some level, instantTaken := some s.timebase
      riseSeen := c.riseSeen || level, fallSeen := c.fallSeen || filtered } := by
    simp only [edgeSeen, notedSample, level, Bool.not_not]
  have hsample : sample i level (selectWaiting s) =
      if c.armed then handEdge i (directionTo level) run.start (after (selectWaiting s)) else after (selectWaiting s) := by
    rw [sample_edge hdue' hs' hlen', recognizeEdge_noteSample_eq, htime, hchannel, hseen]
    simp only [setChannel, setInput, selectWaiting_channels, selectWaiting_inputs]
    rfl
  refine ⟨fun harmed => ?_, fun harmed => ?_, ?_⟩
  · rw [hexec, hsample, if_neg (by simp [harmed])]
    exact congrArg _ (settle_selectWaiting (f := after) s (fun _ _ _ => rfl) rfl rfl rfl rfl rfl rfl)
  · rw [hexec, hsample, if_pos harmed]
    rfl
  · rw [hexec]
    exact event_eq _ _ hh

/-! ### Capture modes (R73 to R83) -/

theorem selects_iff (select : EdgeSelect) (d : Direction) : selects select d = true ↔
    select = .both ∨ (select = .rise ∧ d = .rise) ∨ (select = .fall ∧ d = .fall) := by
  cases select <;> cases d <;> simp [selects]

theorem selects_opposite {select : EdgeSelect} {d : Direction} (h : (select = .rise ∧ d = .fall) ∨ (select = .fall ∧ d = .rise)) :
    ¬ selects select d = true := by
  rcases h with ⟨rfl, rfl⟩ | ⟨rfl, rfl⟩ <;> decide

/-- Settles O38. -/
theorem edgeModeCaptures : Obligations.EdgeModeCaptures := by
  intro i d time select s hmode ev
  have hhand : handEdge i d time s = if selects select d then captureEvent i ev s else s := by
    simp only [handEdge, hmode]
    rfl
  refine ⟨fun h => ?_, fun h => ?_⟩
  · rw [hhand, if_pos ((selects_iff select d).mpr h)]
    rfl
  · rw [hhand, if_neg (selects_opposite h)]

/-- Settles O40. -/
theorem countModeCounts : Obligations.CountModeCounts := by
  intro i d time select s hmode c ev withCount
  have hhand : handEdge i d time s = if selects select d then
      (if c.count + 1 = c.threshold then captureEvent i ev (setChannel i { c with count := 0 } s)
        else setChannel i { c with count := c.count + 1 } s) else s := by
    simp only [handEdge, hmode]
    rfl
  refine ⟨fun h => ?_, fun h => ⟨fun hbelow => ?_, fun hreached => ?_⟩⟩
  · rw [hhand, if_neg (selects_opposite h)]
  · rw [hhand, if_pos ((selects_iff select d).mpr h), if_neg hbelow]
    rfl
  · rw [hhand, if_pos ((selects_iff select d).mpr h), if_pos hreached, captureEvent, channelAt_setChannel_same]
    rfl

/-- R77: at its saturation point a measurement is saturated. -/
theorem saturate_reached {i : ChannelId} {m : Measurement} {s : State} (hm : (channelAt s i).measurement = some m)
    (hp : m.saturationPoint = s.timebase) :
    saturate i s = setChannel i { channelAt s i with measurement := some { m with saturated := true } } s := by
  simp only [saturate, hm]
  exact if_pos hp

/-- Settles O39. -/
theorem widthModeMeasures : Obligations.WidthModeMeasures := by
  intro i p time s hmode c lead trail saturationPoint
  have hlead : isLeading p lead = true := by cases p <;> rfl
  have htrail : ¬ isLeading p trail = true := by cases p <;> decide
  have htrailing : handEdge i trail time s = endWidth i p time s := by
    simp only [handEdge, hmode]
    exact if_neg htrail
  refine ⟨fun hm => ?_, fun hm => ?_, fun m hm => ?_, fun m hh hm hp => ?_⟩
  · rw [handEdge_beginsWidth hmode hlead hm]
    rfl
  · rw [htrailing]
    simp only [endWidth, show (channelAt s i).measurement = none from hm]
  · intro width ev u
    rw [htrailing]
    simp only [endWidth, show (channelAt s i).measurement = some m from hm, captureEvent, channelAt_setChannel_same]
    rfl
  · show event (saturate i) s = _
    have hchannel := channelAt_selectWaiting s i
    rw [event_eq _ _ hh, saturate_reached (m := m) (by rwa [hchannel]) (by rwa [selectWaiting_timebase]), hchannel]
    exact congrArg _ (settle_selectWaiting
      (f := setChannel i { c with measurement := some { m with saturated := true } }) s (fun _ _ _ => rfl) rfl rfl rfl rfl rfl rfl)

/-! ### Points of time -/

/-- Settles O41. -/
theorem timerExpires : Obligations.TimerExpires := by
  intro t s hh hdue x ev u
  have htimer := timerAt_selectWaiting s t
  have hdue' : (timerAt (selectWaiting s) t).due = some (selectWaiting s).timebase := by rwa [htimer, selectWaiting_timebase]
  have hset : setTimer t (expiredTimer (selectWaiting s).timebase (timerAt (selectWaiting s) t)) (selectWaiting s) = u := by
    have hx : expiredTimer s.timebase x = { x with
        expiryCount := x.expiryCount + 1
        due := match x.mode with | .oneshot => none | .periodic => some (s.timebase + x.period.setWidth 32) } := by
      unfold expiredTimer
      cases x.mode <;> rfl
    rw [selectWaiting_timebase, htimer, show timerAt s t = x from rfl, hx]
    simp only [setTimer, selectWaiting_timers]
    rfl
  show event (expire t) s = _
  rw [event_eq _ _ hh, expire, if_pos hdue', hset, selectWaiting_timebase, htimer]
  rfl

/-! #### Notices (R146) -/

theorem isStall_iff (m : Notice) : m.isStall = true ↔ m = .stallSilence ∨ ∃ k, m = .stallRetry k := by
  cases m <;> simp [Notice.isStall]

theorem sameKind_iff (n m : Notice) : sameKind n m = true ↔
    ((m = .stallSilence ∨ ∃ k, m = .stallRetry k) ↔ (n = .stallSilence ∨ ∃ k, n = .stallRetry k)) := by
  rw [sameKind_eq, ← isStall_iff, ← isStall_iff]
  cases m.isStall <;> cases n.isStall <;> decide

theorem placeNotice_joins {n : Notice} {queue : List Notice} (h : ∀ m ∈ queue, ¬ sameKind n m = true) : placeNotice n queue = queue ++ [n] := by
  refine if_neg ?_
  simpa using h

theorem map_replace_of_not_sameKind {n : Notice} {queue : List Notice} (h : ∀ m ∈ queue, ¬ sameKind n m = true) :
    queue.map (fun m => if sameKind n m then n else m) = queue := by
  conv_rhs => rw [← List.map_id queue]
  exact List.map_congr_left fun m hm => if_neg (h m hm)

theorem placeNotice_replaces {n old : Notice} {before after : List Notice} (hold : sameKind n old = true)
    (h : ∀ m ∈ before ++ after, ¬ sameKind n m = true) : placeNotice n (before ++ old :: after) = before ++ n :: after := by
  have hany : (before ++ old :: after).any (sameKind n) = true := by simp [hold]
  rw [placeNotice, if_pos hany, List.map_append, List.map_cons, if_pos hold,
    map_replace_of_not_sameKind fun m hm => h m (List.mem_append_left _ hm),
    map_replace_of_not_sameKind fun m hm => h m (List.mem_append_right _ hm)]

/-- Settles O44. -/
theorem silenceExpiryStalls : Obligations.SilenceExpiryStalls := by
  refine ⟨?_, fun s hh hup hdue => ?_⟩
  · intro n stall
    refine ⟨fun queue h => ?_, fun before old after hold h => ?_⟩
    · exact placeNotice_joins fun m hm hk => h m hm ((sameKind_iff n m).mp hk)
    · exact placeNotice_replaces ((sameKind_iff n old).mpr hold) fun m hm hk => h m hm ((sameKind_iff n m).mp hk)
  · show event silenceExpires s = _
    rw [event_eq _ _ hh, silenceExpires_of_up (by simpa using hdue) (by simpa using hup)]

/-- R42, R43: the retransmit timer of a class, with retries left and without. -/
theorem retransmitExpires_resends {c : Cls} {f : InFlight} {s : State} (hf : (classAt s c).frame = some f)
    (hw : f.state = .waiting s.timebase) (hleft : (classAt s c).retryCount < s.retryLimit.toNat) :
    retransmitExpires c s = setClass c { classAt s c with
      retryCount := (classAt s c).retryCount + 1, frame := some { f with state := .resend } } s := by
  simp only [retransmitExpires, hf, hw, if_true]
  exact if_pos hleft

theorem retransmitExpires_stalls {c : Cls} {f : InFlight} {s : State} (hf : (classAt s c).frame = some f)
    (hw : f.state = .waiting s.timebase) (hup : s.link = .up) (hnone : s.retryLimit.toNat ≤ (classAt s c).retryCount) :
    retransmitExpires c s = stalled (.stallRetry c) s := by
  simp only [retransmitExpires, hf, hw, if_true]
  rw [if_neg (by omega), stallEntry_eq_stalled _ hup]

/-- Settles O43. -/
theorem retransmitExpiryResendsOrStalls : Obligations.RetransmitExpiryResendsOrStalls := by
  refine ⟨?_, fun c f s hh hup hf hw => ?_⟩
  · intro c u stall
    have hdiffers : ∀ queue : List Notice, (∀ m ∈ queue, ¬ stall m) → ∀ m ∈ queue, ¬ sameKind (.stallRetry c) m = true :=
      fun queue h m hm hk => h m hm (((sameKind_iff _ m).mp hk).mpr (.inr ⟨c, rfl⟩))
    refine ⟨fun h => ?_, fun before old after hq hold h => ?_⟩
    · exact placeNotice_joins (hdiffers _ h)
    · have hkind : sameKind (.stallRetry c) old = true := (sameKind_iff _ old).mpr ⟨fun _ => .inr ⟨c, rfl⟩, fun _ => hold⟩
      show placeNotice (.stallRetry c) u.notices = _
      rw [hq, placeNotice_replaces hkind (hdiffers _ h)]
  · have hclass := classAt_selectWaiting s c
    have hf' : (classAt (selectWaiting s) c).frame = some f := by rwa [hclass]
    have hw' : f.state = .waiting (selectWaiting s).timebase := by rwa [selectWaiting_timebase]
    refine ⟨fun hleft => ?_, fun hnone => ?_⟩
    · show event (retransmitExpires c) s = _
      rw [event_eq _ _ hh, retransmitExpires_resends hf' hw' (by rwa [hclass, selectWaiting_retryLimit]), hclass]
      simp only [setClass, selectWaiting_classes]
    · show event (retransmitExpires c) s = _
      rw [event_eq _ _ hh, retransmitExpires_stalls hf' hw' (by rwa [selectWaiting_link]) (by rwa [hclass, selectWaiting_retryLimit])]

/-- Settles O46. -/
theorem agedMarkIsSet : Obligations.AgedMarkIsSet := by
  intro c number s hh age
  have hage : ageRecord number s.timebase = age := rfl
  show event (fun t => setClass c (ageClass number t.timebase (classAt t c)) t) s = _
  rw [event_eq _ _ hh, classAt_selectWaiting, selectWaiting_timebase, ageClass, hage]
  simp only [setClass, selectWaiting_classes]

end Sys2Proof.Machine
end

section
/-! SUPPORT. The state after the power-on reset (R24, R50, R67, R86, R98, R120, R132, R152, R166, R184), and that it is safe. -/

namespace Sys2Proof.Machine

open Sys2Proof

theorem reset_classAt (c : Cls) : ∃ hold, classAt State.reset c = ClassState.default hold := classAt_of_defaults rfl c
theorem reset_channelAt (i : ChannelId) : channelAt State.reset i = Channel.default := channelAt_of_default rfl i
theorem reset_timerAt (t : TimerId) : timerAt State.reset t = Timer.default := timerAt_of_default rfl t
theorem reset_entryAt (i : EntryId) : entryAt State.reset i = Entry.default := entryAt_of_default rfl i
theorem reset_outputAt (l : LineId) : outputAt State.reset l = Output.default := outputAt_of_default rfl l

/-- Settles O3: every block stands at its defaults. -/
theorem resetValues : Obligations.ResetValues := by
  refine ⟨?_, fun c => ?_, ⟨rfl, rfl, rfl, rfl⟩, fun i => ?_, reset_timerAt, reset_entryAt, reset_outputAt, ?_⟩
  · exact ⟨rfl, rfl, rfl, rfl, rfl, rfl, rfl, rfl, rfl, rfl, rfl, rfl⟩
  · obtain ⟨hold, h⟩ := reset_classAt c
    rw [h]
    exact ⟨rfl, rfl, rfl, rfl, rfl, rfl, rfl, rfl, rfl⟩
  · rw [reset_channelAt i]
    exact ⟨rfl, rfl, rfl, rfl, rfl, rfl, rfl, rfl, rfl, rfl, rfl, rfl, rfl, rfl⟩
  · exact ⟨rfl, rfl, rfl, rfl, rfl, rfl, rfl, rfl⟩

/-- R146, R154: after reset no request and no reply waits, and one notice. -/
theorem reset_handlerSafe : HandlerSafe State.reset :=
  ⟨Nat.zero_le _, .nil, Nat.zero_le _, Nat.zero_le _, .nil, Nat.le_succ 1, List.pairwise_singleton _ _, fun h => absurd rfl h⟩

/-- R143: after reset the link is DOWN and the silence timer stopped. -/
theorem reset_silenceSafe : SilenceSafe State.reset := by
  constructor
  · intro h; cases h
  · rintro ⟨hup, -⟩; cases hup

/-- R34, R53, R88, R124: after reset nothing runs. -/
theorem reset_timesAhead : TimesAhead State.reset := by
  have hchannel : ∀ i : ChannelId, ChannelAhead 0 (channelAt State.reset i) := fun i => by
    rw [reset_channelAt]
    exact channelAhead_default _
  rw [timesAhead_iff]
  refine ⟨fun t => ?_, fun l => ?_, retransmitsAhead_of_defaults rfl, silenceAhead_of_none rfl, gapAhead_of_none rfl,
    fun i => (hchannel i).1, fun i => (hchannel i).2, transmitAhead_of_none rfl, rateChangeRecent_of_none rfl, fun _ => rfl⟩
  · rw [reset_timerAt]
    exact timerAhead_default _
  · rw [reset_outputAt]
    exact pulseAhead_none rfl

/-- Settles O52. -/
theorem resetIsSafe : Obligations.ResetIsSafe := by
  refine ⟨poolSafe_of_empty fun c => ?_, numberingSafe_of_empty fun c => ?_, deliverySafe_of_defaults rfl, locksSafe_of_default rfl,
    attnSafe_of_level rfl, reset_silenceSafe, reset_handlerSafe, receiverSafe_of_hunt rfl rfl rfl, channelsSafe_of_default rfl,
    entriesSafe_of_default rfl, reset_timesAhead⟩
  all_goals
    obtain ⟨hold, h⟩ := reset_classAt c
    rw [h]
    rfl

end Sys2Proof.Machine
end
